-- ==== Sys2Proof/Word.lean ====
section
/-! DEFINITION. The bit-vector types of the spec (`spec/00_scope.md` rules R5, R6): every value is an unsigned
number of a stated width, bit 0 the least significant. -/

namespace Sys2Proof

/-- One transport byte, BYTE_W = 8 (R5). -/
abbrev Byte := BitVec 8

/-- The status word (RawReading), WORD_W = 16 (R5, R45). -/
abbrev Word := BitVec 16

/-- A temperature magnitude, MAG_W = TEMPQ_W = 12 (R5, R68, R69). -/
abbrev Mag := BitVec 12

/-- A request code, OP_W = 2 (R5, R49). -/
abbrev ReqOp := BitVec 2

end Sys2Proof
end

