-- ==== Sys2Proof/Config.lean ====
section
/-! DEFINITION. What is fixed for the block (`spec/00_scope.md` rule R5), the configuration type CFG, and the one
free value of the model: the transport's answer where no script pins it. -/

namespace Sys2Proof

/-- CFG, the transport configuration (R13): bus identifier, device/chip-select line, transfer rate and any other
transport-specific parameters. The block never interprets it, so each item is an uninterpreted token.
DESIGN CHOICE (log entry 3): the spec leaves the type open. -/
structure Cfg where
  /-- the bus identifier -/
  bus : Nat
  /-- the device/chip-select line -/
  device : Nat
  /-- the transfer rate (no value is given by the spec) -/
  rate : Nat
  /-- a clock mode the configuration may name; it does not win over mode 0 (R91) -/
  mode : Option (BitVec 2)
  /-- any other parameters, as (name, value) tokens -/
  other : List (Nat × Nat)
  deriving DecidableEq, Repr

/-- The answer of a transport to a 2-byte read (R27): two bytes, `b0` the first received, or an error whose payload
is held zero-extended to 16 bits, the most TERR_W can be (R5). -/
inductive Answer where
  | bytes (b0 b1 : Byte)
  | err (payload : BitVec 16)
  deriving DecidableEq, Repr, Inhabited

namespace Config

/-- NBYTES (R5): the size of every transport read. -/
abbrev nbytes : Nat := 2

/-- FAULT_BIT (R5). -/
abbrev faultBit : Nat := 2

/-- FAULT_MASK (R5). -/
abbrev faultMask : Word := 0x0004#16

/-- STATUS_BITS (R5): the low bits the shift discards. -/
abbrev statusBits : Nat := 3

/-- MAG_MASK (R5, conflict C1): applied after the shift. -/
abbrev magMask : Word := 0x0FFF#16

/-- MAG_MAX (R5). -/
abbrev magMax : Nat := 4095

/-- FRAC_BITS (R5, D6): 0.25 = 2^-2. -/
abbrev fracBits : Nat := 2

/-- MODE (R5, R12): the transport's clock mode, the constant 0. -/
abbrev mode : BitVec 2 := 0#2

/-- The default of TERR_W (R5, D10). -/
abbrev terrWDefault : Fin 17 := 8

/-- The serial clocks of one 2-byte read (R128): information about the transport, which no rule of the model uses. -/
abbrev clocksPerRead : Nat := 16

/-- The configuration of `State.reset`. DESIGN CHOICE (log entry 4): the spec gives "the configuration passed to the
constructor" and leaves which one to whoever constructs. -/
def cfg0 : Cfg := { bus := 0, device := 0, rate := 0, mode := none, other := [] }

/-- The transport's answer to the n-th read when no scripted reply is left: the oracle of R27, "a free input of the
step", with no law relating one answer to the next (R31, U7). No body: nothing is provable of it (log entry 2). -/
opaque freeAnswer : Nat → Answer

end Config

end Sys2Proof
end

