-- ==== Sys2Proof/Machine/Flags.lean ====
section
/-! DEFINITION. The one condition the block computes, the fault flag of a status word, and the class it selects
(`spec/40_decode_datapath.md` rules R66, R67, R73). It is computed afresh from each word and stored nowhere (R16). -/

namespace Sys2Proof.Machine

/-- FAULT (R66): bit 2 of the word, FAULT_BIT of R5. -/
def fault (v : Word) : Bool := v.getLsbD 2

/-- CONNECTED (R67): the negation of bit 2. -/
def connected (v : Word) : Bool := !fault v

end Sys2Proof.Machine
end

