-- ==== Sys2Proof/Machine/Operands.lean ====
section
/-! DEFINITION. The data functions of the decode datapath (`spec/40_decode_datapath.md` section 1): word assembly,
magnitude, fixed-point scaling and its views, and the assembly of a status word from its fields. All are pure and
total (R72). -/

namespace Sys2Proof.Machine

/-- WORD (R65): the first byte received is bits 15..8, the second bits 7..0. -/
def word (b0 b1 : Byte) : Word := (b0.setWidth 16 <<< 8) ||| b1.setWidth 16

/-- The byte in bits 15..8, the first of FRAME2 (R48). -/
def highByte (v : Word) : Byte := v.extractLsb' 8 8

/-- The byte in bits 7..0, the second of FRAME2 (R48). -/
def lowByte (v : Word) : Byte := v.extractLsb' 0 8

/-- RSV15, bit 15 of the word (R45, R46). -/
def rsv15 (v : Word) : BitVec 1 := v.extractLsb' 15 1

/-- MAG (R68): bits 14..3, which masks bit 15 out (conflict C1). -/
def mag (v : Word) : Mag := v.extractLsb' 3 12

/-- ID, bits 1..0 of the word (R45, R47). -/
def ident (v : Word) : BitVec 2 := v.extractLsb' 0 2

/-- The word with the given fields (R45). -/
def statusWord (r : BitVec 1) (m : Mag) (fault : Bool) (i : BitVec 2) : Word :=
  (r ++ m ++ BitVec.ofBool fault ++ i).cast rfl

/-- TEMPQ (R69): the magnitude itself, read as unsigned Q10.2. -/
def tempq (v : Word) : Mag := mag v

/-- TEMP_INT (R70): whole degrees. -/
def tempInt (v : Word) : BitVec 10 := (tempq v).extractLsb' 2 10

/-- TEMP_FRAC (R70): quarters of a degree. -/
def tempFrac (v : Word) : BitVec 2 := (tempq v).extractLsb' 0 2

/-- The number an unsigned Q10.2 value denotes (R53), in degrees Celsius. -/
def celsius (q : Mag) : Rat := q.toNat / 4

/-- TEMPC (R71): the number TEMPQ denotes, an exact rational. -/
def tempC (v : Word) : Rat := celsius (tempq v)

end Sys2Proof.Machine
end

