-- ==== Sys2Proof/Syntax.lean ====
section
/-! DEFINITION. The syntax: one constructor per row of `spec/opcode_table.json`, and the names decoding rejects by. -/

namespace Sys2Proof

/-- The rows of `spec/opcode_table.json`. The four requests have no operand (R49). The two classes of the status
word (R73) carry its fields RSV15, MAG and ID (R45); bit 2 is the class. -/
inductive Instr where
  /-- ACQ, `acquire_raw` (R81) -/
  | acq
  /-- RDT, `read_temperature` (R82) -/
  | rdt
  /-- CON, `is_connected` (R83) -/
  | con
  /-- CLS, release/close (R90) -/
  | cls
  /-- SW.NOFAULT, a status word with bit 2 clear (R73) -/
  | swNofault (rsv15 : BitVec 1) (mag : Mag) (id : BitVec 2)
  /-- SW.FAULT, a status word with bit 2 set (R73) -/
  | swFault (rsv15 : BitVec 1) (mag : Mag) (id : BitVec 2)
  deriving DecidableEq, Repr

/-- Why a list of bytes is no instruction: it has neither the form of REQ (R49) nor that of SW16 (R45, R48). -/
inductive DecodeError where
  /-- no byte at all -/
  | empty
  /-- one byte that holds no 2-bit request code -/
  | notARequest (b : Byte)
  /-- more than the two bytes of FRAME2 (R56: every format has one length) -/
  | tooLong (n : Nat)
  deriving DecidableEq, Repr

/-- The mnemonic (R57). -/
def Instr.mnemonic : Instr → String
  | .acq => "ACQ"
  | .rdt => "RDT"
  | .con => "CON"
  | .cls => "CLS"
  | .swNofault _ _ _ => "SW.NOFAULT"
  | .swFault _ _ _ => "SW.FAULT"

/-- The requests by their mnemonics (R57); a status word is data and has no spelling of its own. -/
def Instr.ofMnemonic : String → Option Instr
  | "ACQ" => some .acq
  | "RDT" => some .rdt
  | "CON" => some .con
  | "CLS" => some .cls
  | _ => none

/-- The four operations of the request channel (R49). -/
def Instr.isRequest : Instr → Bool
  | .acq => true
  | .rdt => true
  | .con => true
  | .cls => true
  | .swNofault _ _ _ => false
  | .swFault _ _ _ => false

/-- The query operations, the only ones that touch the transport's read (R80, R84). -/
def Instr.isQuery : Instr → Bool
  | .acq => true
  | .rdt => true
  | .con => true
  | .cls => false
  | .swNofault _ _ _ => false
  | .swFault _ _ _ => false

end Sys2Proof
end

