-- ==== Sys2Proof/WellFormed.lean ====
section
/-! DEFINITION. The checks on what the outside presents to the block: the frames of the request channel and the
replies of the transport. An `Instr` needs no check of its own: its fields have the widths of R45 as their types, so
no ill-formed instruction can be written down. -/

namespace Sys2Proof

/-- The bytes have one of the two forms an instruction has: a request code in one byte (R49) or a status word in the
two bytes of FRAME2 (R48). -/
def frameWf : List Byte → Bool
  | [b] => decide (b.toNat < 4)
  | [_, _] => true
  | _ => false

/-- An answer keeps to the payload width TERR_W (R5, R27). -/
def Answer.fits (w : Fin 17) : Answer → Bool
  | .bytes _ _ => true
  | .err e => decide (e.toNat < 2 ^ w.val)

end Sys2Proof
end

