-- ==== Sys2Proof/Decode.lean ====
section
/-! DEFINITION. Decoding of the request codes (R49) and of the status word's classes (R45, R73), total on any bytes,
and the encoder back. The length of a frame tells the two formats apart (R56): a request arrives alone on its
channel, a status word as the two bytes of FRAME2 (R48). -/

namespace Sys2Proof

/-- The request decoder (R49): total, no code is illegal or reserved (R54). -/
def decodeReq (op : ReqOp) : Instr :=
  match op.toNat with
  | 0 => .acq
  | 1 => .rdt
  | 2 => .con
  | _ => .cls

/-- The status word decoder (R45, R73): bit 2 selects the class, no word is illegal (R54). -/
def decodeWord (v : Word) : Instr :=
  if Machine.fault v then .swFault (Machine.rsv15 v) (Machine.mag v) (Machine.ident v)
  else .swNofault (Machine.rsv15 v) (Machine.mag v) (Machine.ident v)

/-- Decoding of any bytes: a request in one byte, its code in bits 1..0 and nothing above it (log entry 8), a status
word in two bytes, the first bits 15..8; anything else is rejected by name. -/
def decode : List Byte → Except DecodeError Instr
  | [] => .error .empty
  | [b] => if b.toNat < 4 then .ok (decodeReq (b.setWidth 2)) else .error (.notARequest b)
  | [b0, b1] => .ok (decodeWord (Machine.word b0 b1))
  | b0 :: b1 :: b2 :: bs => .error (.tooLong (b0 :: b1 :: b2 :: bs).length)

/-- FRAME2 of a word (R48). -/
def encodeWord (v : Word) : List Byte := [Machine.highByte v, Machine.lowByte v]

/-- The bytes of an instruction, from the tables of R45 and R49. -/
def encode : Instr → List Byte
  | .acq => [0x00#8]
  | .rdt => [0x01#8]
  | .con => [0x02#8]
  | .cls => [0x03#8]
  | .swNofault r m i => encodeWord (Machine.statusWord r m false i)
  | .swFault r m i => encodeWord (Machine.statusWord r m true i)

/-- The bytes of the number `w` in `k` bytes, the most significant first (R28). -/
def bigEndian (w : Nat) : Nat → List Byte
  | 0 => []
  | k + 1 => BitVec.ofNat 8 (w >>> (8 * k)) :: bigEndian w k

/-- The bytes of an instruction of `nbits` bits whose bits are `w`, bit 0 the least significant: a request takes one
byte and a status word two, the most significant first (R28, R48). -/
def layOut (nbits w : Nat) : List Byte := bigEndian w ((nbits + 7) / 8)

/-- What `decode` reads from the `nbits` bits of `w`; none where it rejects them. -/
def decodeTableWord (nbits w : Nat) : Option Instr :=
  match decode (layOut nbits w) with
  | .ok i => some i
  | .error _ => none

end Sys2Proof
end

