-- ==== Sys2Proof/Machine/State.lean ====
section
/-! DEFINITION. The state: the block's three items (`spec/10_state.md` rule R10), the record of a run (R130), and, as
the model's own plain data, what stands around the block (host, transport, platform); the reasons a step can stop;
the state right after CONSTRUCT. -/

namespace Sys2Proof.Machine

/-- The three error kinds (R100). An error is a response, so it is no `Fault` of the machine. -/
inductive ErrorKind where
  /-- an operation on a released instance (R101) -/
  | resourceClosed
  /-- RDT on a word whose bit 2 is set (R102) -/
  | thermocoupleFault
  /-- the transport's own error, its payload zero-extended to 16 bits (R103) -/
  | transportError (payload : BitVec 16)
  deriving DecidableEq, Repr

/-- The value of an OK response, by its layout (R51). -/
inductive Value where
  /-- RAW16, of ACQ -/
  | raw (v : Word)
  /-- TEMPQ16, of RDT: Q10.2 -/
  | temperature (q : Mag)
  /-- BOOL16, of CON -/
  | connected (c : Bool)
  /-- ZERO16, of CLS -/
  | released
  deriving DecidableEq, Repr

/-- A response (R50): a sum of a value and an error kind, so that an error carries no value (U15). -/
inductive Response where
  | ok (v : Value)
  | error (k : ErrorKind)
  deriving DecidableEq, Repr

/-- The calls the block makes on the transport (R26). -/
inductive TransportCall where
  | configure (cfg : Cfg) (mode : BitVec 2)
  | read (n : Nat)
  | close
  deriving DecidableEq, Repr

/-- The result of DECODE on one word (R76): all three from the same word. The temperature means something to the host
only when `fault` is false (R55, R74). -/
structure Decoded where
  fault : Bool
  connected : Bool
  tempq : Mag
  deriving DecidableEq, Repr

/-- What a transport does when it is asked for two bytes: bytes of any number (only two of them are within the
contract, R27, U12), an error with its payload, or no answer ever (R41, U9). -/
inductive Reply where
  | data (bs : List Byte)
  | error (payload : BitVec 16)
  | never
  deriving DecidableEq, Repr

/-- What the host does to the instance (R35, R49, R91, R55, R36). -/
inductive HostEvent where
  /-- CONSTRUCT(cfg), the reset event (R91) -/
  | construct (cfg : Cfg)
  /-- bytes presented to be decoded: a request on the request channel (R49), or a status word the host holds and
  applies DECODE to (R76) -/
  | frame (bs : List Byte)
  /-- the pseudo-operation DECODE: one ACQ, then DECODE of its word by the host (R55) -/
  | decodeSample
  /-- a second request issued before the first is answered (R36, U3) -/
  | overlap (first second : ReqOp)
  deriving DecidableEq, Repr

/-- The block's own state, R10: three items and nothing else. -/
structure Block where
  /-- OPEN (R11) -/
  isOpen : Bool
  /-- MODE (R12): {polarity, phase} -/
  mode : BitVec 2
  /-- CFG (R13) -/
  cfg : Cfg
  deriving DecidableEq, Repr

/-- The end state of a run (R130): the block's state, the responses in order, the transport calls in order. -/
structure EndState where
  block : Block
  responses : List Response
  calls : List TransportCall
  deriving DecidableEq, Repr

/-- What stands around the block and never changes during a run: the parameter TERR_W and the facts that the spec's
rules presuppose. The model refuses every step where one of them is broken; that it refuses where a requirement of
R121 is missing, of which the spec says only that the rules then do not hold, is the model's choice (log entry 6). -/
structure Platform where
  /-- TERR_W (R5, D10): the width of a transport error's payload, at most 16 -/
  terrW : Fin 17
  /-- a requirement of R121 (1) to (3) is not in place: platform initialisation, a transport, a real configuration -/
  notReady : Bool
  /-- `TransportConfigure` can fail (R26, U11) -/
  configureCanFail : Bool
  /-- `TransportClose` can fail (R26, U11) -/
  closeCanFail : Bool
  /-- the platform runs the transport in a clock mode of its own (R12, U14) -/
  modeOverridden : Bool
  /-- another instance is configured onto the same bus and device (R24, U10) -/
  deviceShared : Bool
  /-- another instance's transport shares the physical bus, with whatever device (R113: the block does not arbitrate) -/
  busShared : Bool
  /-- two hosts share the instance without serialising their requests (R36, R113) -/
  hostsUnserialised : Bool
  deriving DecidableEq, Repr

/-- The whole state: plain data. -/
structure State where
  /-- OPEN, MODE and CFG (R10) -/
  block : Block
  /-- the responses of the run in order (R50, R130) -/
  responses : List Response
  /-- the transport calls of the run in order (R26, R130) -/
  calls : List TransportCall
  /-- the results of the host-side DECODE in order (R55, R76); the model's own field -/
  decoded : List Decoded
  /-- the end states of the earlier runs, oldest first (R130; log entry 10); the model's own field -/
  ended : List EndState
  /-- the host's coming events, oldest first; the model's own field -/
  inbox : List HostEvent
  /-- the transport's coming replies, oldest first; beyond them the answer is free (R27); the model's own field -/
  script : List Reply
  /-- how many reads the transport has answered: the index of the free answer; the model's own field -/
  draws : Nat
  /-- what stands around the block; the model's own field -/
  platform : Platform
  deriving DecidableEq, Repr

/-- Why the machine stops with a fault. -/
inductive Fault where
  /-- The transport never answers the read (R41, U9: "stuck: the operation has no step until the oracle answers").
  Raised by ACQ, RDT and CON in state Open. Safe: nothing is claimed of such a run. -/
  | transportNeverAnswers
  deriving DecidableEq, Repr

/-- What the model gives no meaning. -/
inductive Refusal where
  /-- An instruction without a meaning in this model; no arm answers it. Safe. -/
  | notModelled (mnemonic : String)
  /-- Bytes that are neither a request nor a status word were presented (R49, R56). Raised by fetching. Safe. -/
  | undecodable (e : DecodeError)
  /-- Two requests at once (R36, U3). Raised by fetching. Safe. -/
  | overlappingRequests
  /-- CONSTRUCT of an instance that is still Open (R23, U10). Raised by CONSTRUCT. Safe. -/
  | constructWhileOpen
  /-- A 2-byte read answered with another number of bytes (R27, U12). Raised by ACQ, RDT and CON. Safe. -/
  | transportByteCount
  /-- A transport error whose payload is wider than TERR_W (R27). Raised by ACQ, RDT and CON. Safe. -/
  | transportPayloadWidth
  /-- A boot requirement is not in place (R121; the refusal is the model's choice, log entry 6). Raised by fetching.
  Safe. -/
  | platformNotReady
  /-- A transport whose configure can fail (R26, U11). Raised by fetching. Safe. -/
  | configureCanFail
  /-- A transport whose close can fail (R26, U11). Raised by fetching. Safe. -/
  | closeCanFail
  /-- A platform that overrides clock mode 0 (R12, U14). Raised by fetching. Safe. -/
  | modeOverridden
  /-- Two instances on one bus and device (R24, U10). Raised by fetching. Safe. -/
  | deviceShared
  /-- Two instances whose transports share a physical bus (R113). Raised by fetching. Safe. -/
  | busShared
  /-- Two hosts share the instance unserialised (R36, R113). Raised by fetching. Safe. -/
  | hostsUnserialised
  deriving DecidableEq, Repr

/-- A platform that keeps the contract, with the default TERR_W (R5, R26, R121). -/
def Platform.conforming : Platform :=
  { terrW := Config.terrWDefault, notReady := false, configureCanFail := false, closeCanFail := false,
    modeOverridden := false, deviceShared := false, busShared := false, hostsUnserialised := false }

/-- The state right after CONSTRUCT(cfg), with nothing yet asked of the block (R22, R120): Open, mode 0, `cfg` kept
unmodified, the transport configured with them, no response. -/
def State.afterConstruct (cfg : Cfg) : State :=
  { block := { isOpen := true, mode := Config.mode, cfg := cfg }
    responses := []
    calls := [.configure cfg Config.mode]
    decoded := []
    ended := []
    inbox := []
    script := []
    draws := 0
    platform := Platform.conforming }

/-- The state after reset. Reset is CONSTRUCT (R22, R120); its argument is a choice of the model (log entry 4). -/
def State.reset : State := State.afterConstruct Config.cfg0

end Sys2Proof.Machine
end

