-- ==== Sys2Proof/Machine/Ops.lean ====
section
/-! DEFINITION. The shared operations: delivering a response, delivering an error (the block's way of taking an
exception, R106), the three transport primitives (R26, R27), the common shape of a query (R80), the host-side
DECODE (R76), and the bits of a response (R50, R51). -/

namespace Sys2Proof.Machine

/-- `respond(status, data)` (R7, R50): the response is delivered. -/
def State.respond (r : Response) (s : State) : State := { s with responses := s.responses ++ [r] }

/-- `raise Kind(info)` (R7, R106): the error is delivered as the response in place of a value and nothing else
happens; no state is saved, no mode changes, control goes nowhere. There is no return operation beside it (R108): the
block is at once ready for the next request. -/
def State.raise (k : ErrorKind) (s : State) : State := s.respond (.error k)

/-- `TransportConfigure(CFG, MODE)` (R26, R91), with no failure answer. -/
def State.transportConfigure (s : State) : State :=
  { s with calls := s.calls ++ [.configure s.block.cfg s.block.mode] }

/-- `TransportClose()` (R26, R90), with no failure answer. -/
def State.transportClose (s : State) : State := { s with calls := s.calls ++ [.close] }

/-- `OPEN <- v` (R11). -/
def State.setOpen (v : Bool) (s : State) : State := { s with block := { s.block with isOpen := v } }

/-- What comes of asking the transport: an answer within the contract, silence, or a reply outside the contract. -/
inductive ReadResult where
  | got (a : Answer)
  | silent
  | outside (r : Refusal)
  deriving DecidableEq, Repr

/-- One reply held against the contract of R27, for payloads of `w` bits. -/
def readReply (w : Fin 17) : Reply → ReadResult
  | .data [b0, b1] => .got (.bytes b0 b1)
  | .data _ => .outside .transportByteCount
  | .error e => if Answer.fits w (.err e) then .got (.err e) else .outside .transportPayloadWidth
  | .never => .silent

/-- An answer with its payload cut to `w` bits, so that a free answer is one the contract allows (R27). -/
def clipAnswer (w : Fin 17) : Answer → Answer
  | .bytes b0 b1 => .bytes b0 b1
  | .err e => .err (BitVec.ofNat 16 (e.toNat % 2 ^ w.val))

/-- What `TransportRead(2)` comes to in this state (R27): the next scripted reply, or, with none left, a free answer
(R129: a transport that is asked eventually answers; log entry 2). -/
def State.nextRead (s : State) : ReadResult :=
  match s.script with
  | [] => .got (clipAnswer s.platform.terrW (Config.freeAnswer s.draws))
  | r :: _ => readReply s.platform.terrW r

/-- The state after one answered `TransportRead(2)` (R30, R31): the call made, the reply used up. -/
def State.afterRead (s : State) : State :=
  { s with calls := s.calls ++ [.read Config.nbytes], script := s.script.tail, draws := s.draws + 1 }

/-- Stages 2 to 4 of R80 on the transport's answer: its error is raised unchanged, its two bytes become the word the
operation decodes. -/
def deliver (k : Word → State → State) : Answer → State → State
  | .bytes b0 b1, s => k (word b0 b1) s
  | .err e, s => s.raise (.transportError e)

/-- The common shape of ACQ, RDT and CON (R80): the closed test comes first and asks nothing of the transport; then
exactly one read; then the operation's own decode `k` of the word. -/
def query (k : Word → State → State) (s : State) : Host.Outcome State Fault Refusal :=
  if s.block.isOpen then
    match s.nextRead with
    | .got a => .next (deliver k a s.afterRead)
    | .silent => .fault .transportNeverAnswers
    | .outside r => .refused r
  else .next (s.raise .resourceClosed)

/-- DECODE(v) (R76). -/
def decodeJoint (v : Word) : Decoded := { fault := fault v, connected := connected v, tempq := tempq v }

/-- The host applies DECODE to a word it holds (R55, R76): no request, no transaction, no response. -/
def State.hostDecode (v : Word) (s : State) : State := { s with decoded := s.decoded ++ [decodeJoint v] }

/-- `rsp_status` (R50, R100). -/
def Response.status : Response → BitVec 2
  | .ok _ => 0b00#2
  | .error .resourceClosed => 0b01#2
  | .error .thermocoupleFault => 0b10#2
  | .error (.transportError _) => 0b11#2

/-- `rsp_data` (R51): the layouts RAW16, TEMPQ16, BOOL16, ZERO16 and TERR16. The zeros of ResourceClosed and
ThermocoupleFault are filler, no value (U15). -/
def Response.data : Response → BitVec 16
  | .ok (.raw v) => v
  | .ok (.temperature q) => q.setWidth 16
  | .ok (.connected c) => (BitVec.ofBool c).setWidth 16
  | .ok .released => 0#16
  | .error .resourceClosed => 0#16
  | .error .thermocoupleFault => 0#16
  | .error (.transportError e) => e

/-- The transport's `is_open()` (R11, R26), read off the calls made on it in order: configure opens it, close
releases it, a read leaves it. -/
def isOpenAfter (calls : List TransportCall) : Bool :=
  calls.foldl (fun o c => match c with
    | .configure _ _ => true
    | .read _ => o
    | .close => false) false

/-- Clock polarity, the high bit of MODE (R12): 0 is "clock idles low". -/
def Block.polarity (b : Block) : Bool := b.mode.getLsbD 1

/-- Clock phase, the low bit of MODE (R12): 0 is "data sampled on the rising edge". -/
def Block.phase (b : Block) : Bool := b.mode.getLsbD 0

end Sys2Proof.Machine
end

