-- ==== Sys2Proof/Machine/Lifecycle.lean ====
section
/-! DEFINITION. The lifecycle operations (`spec/42_lifecycle_ops.md`): CLS, and CONSTRUCT, which is the block's reset
(R120) and no request. -/

namespace Sys2Proof.Machine

/-- CLS (R90): in state Open the transport is closed and OPEN becomes 0; in state Closed ResourceClosed. -/
def execCls (s : State) : Host.Outcome State Fault Refusal :=
  if s.block.isOpen then .next ((s.transportClose.setOpen false).respond (.ok .released))
  else .next (s.raise .resourceClosed)

/-- What R130 calls the end state, of the run as it stands. -/
def State.endState (s : State) : EndState := { block := s.block, responses := s.responses, calls := s.calls }

/-- A new instance in the same block (R23, R24): CFG and MODE written, the end state of the run before it kept and the
record of a new run begun (R130; log entry 10). The transport is not yet configured and OPEN not yet set. -/
def State.newInstance (cfg : Cfg) (s : State) : State :=
  { s with
    block := { s.block with cfg := cfg, mode := Config.mode }
    responses := []
    calls := []
    decoded := []
    ended := s.ended ++ [s.endState] }

/-- CONSTRUCT(cfg) (R91, R120), in the order of its steps; of an instance that is still Open it is refused (R23). -/
def construct (cfg : Cfg) (s : State) : Host.Outcome State Fault Refusal :=
  if s.block.isOpen then .refused .constructWhileOpen
  else .next ((s.newInstance cfg).transportConfigure.setOpen true)

end Sys2Proof.Machine
end

