-- ==== Sys2Proof/Machine/Query.lean ====
section
/-! DEFINITION. The query operations (`spec/41_query_ops.md`): ACQ, RDT and CON, each over the common shape of R80. -/

namespace Sys2Proof.Machine

/-- ACQ (R81): the word as received, nothing masked, the fault flag not looked at. -/
def execAcq (s : State) : Host.Outcome State Fault Refusal :=
  query (fun v t => t.respond (.ok (.raw v))) s

/-- RDT (R82): ThermocoupleFault when bit 2 of the word is set, else the temperature of that same word. -/
def execRdt (s : State) : Host.Outcome State Fault Refusal :=
  query (fun v t => if fault v then t.raise .thermocoupleFault else t.respond (.ok (.temperature (tempq v)))) s

/-- CON (R83): whether bit 2 of the word is clear; never ThermocoupleFault. -/
def execCon (s : State) : Host.Outcome State Fault Refusal :=
  query (fun v t => t.respond (.ok (.connected (connected v)))) s

end Sys2Proof.Machine
end

