-- ==== Sys2Proof/Machine/StatusWord.lean ====
section
/-! DEFINITION. The two classes of the status word (`spec/40_decode_datapath.md` rule R73) as instructions: the word's
parse, DECODE (R76), by a host that holds the word (log entry 7). -/

namespace Sys2Proof.Machine

/-- SW.NOFAULT (R73): DECODE of a word with bit 2 clear. -/
def execSwNofault (r : BitVec 1) (m : Mag) (i : BitVec 2) (s : State) : Host.Outcome State Fault Refusal :=
  .next (s.hostDecode (statusWord r m false i))

/-- SW.FAULT (R73): DECODE of a word with bit 2 set; its magnitude is defined and is no temperature (R74). -/
def execSwFault (r : BitVec 1) (m : Mag) (i : BitVec 2) (s : State) : Host.Outcome State Fault Refusal :=
  .next (s.hostDecode (statusWord r m true i))

end Sys2Proof.Machine
end

