-- ==== Sys2Proof/Machine/Dispatch.lean ====
section
/-! DEFINITION. The dispatch: one arm per constructor of `Instr`, each one direct call of its meaning. -/

namespace Sys2Proof.Machine

def exec (i : Instr) (s : State) : Host.Outcome State Fault Refusal :=
  match i with
  | .acq => Sys2Proof.Machine.execAcq s
  | .rdt => Sys2Proof.Machine.execRdt s
  | .con => Sys2Proof.Machine.execCon s
  | .cls => Sys2Proof.Machine.execCls s
  | .swNofault r m d => Sys2Proof.Machine.execSwNofault r m d s
  | .swFault r m d => Sys2Proof.Machine.execSwFault r m d s

end Sys2Proof.Machine
end

