-- ==== Sys2Proof/Machine/Events.lean ====
section
/-! DEFINITION. Taking the host's next event: the presuppositions of the spec's rules (R121 and the configurations the
spec refuses), fetching and decoding, and the host-side pseudo-operation (`spec/30_encoding.md` rule R55). -/

namespace Sys2Proof.Machine

/-- The refusal a platform calls for, if the spec's rules do not hold on it (R12, R24, R26, R113, R121). Which name a
platform that breaks several facts gets is the model's choice: the first of this order (log entry 6). -/
def Platform.refusal (p : Platform) : Option Refusal :=
  if p.notReady then some .platformNotReady
  else if p.configureCanFail then some .configureCanFail
  else if p.closeCanFail then some .closeCanFail
  else if p.modeOverridden then some .modeOverridden
  else if p.deviceShared then some .deviceShared
  else if p.busShared then some .busShared
  else if p.hostsUnserialised then some .hostsUnserialised
  else none

/-- The event issues a request: a request of the request channel (R49), the ACQ of the pseudo-operation DECODE (R55), or
two requests at once. A status word is none (R55: the host applies DECODE by itself), CONSTRUCT is none (R91: outside
the request channel), and bytes of no format are none (log entry 21). -/
def HostEvent.issuesRequest : HostEvent → Bool
  | .construct _ => false
  | .frame bs =>
    match decode bs with
    | .ok i => i.isRequest
    | .error _ => false
  | .decodeSample => true
  | .overlap _ _ => true

/-- The event begins a new run (R130: a run is a CONSTRUCT followed by requests). -/
def HostEvent.beginsRun : HostEvent → Bool
  | .construct _ => true
  | .frame _ => false
  | .decodeSample => false
  | .overlap _ _ => false

/-- The host has a further request in this run: one that waits before the next CONSTRUCT (R130; log entry 21). -/
def State.requestWaits (s : State) : Bool := (s.inbox.takeWhile (fun e => !e.beginsRun)).any HostEvent.issuesRequest

/-- What the next step is to do, with the event taken out of the inbox. -/
inductive Fetched where
  /-- no event waits: the block does nothing between operations (R35, R104) -/
  | idle
  | construct (cfg : Cfg) (t : State)
  | run (i : Instr) (t : State)
  | sample (t : State)
  | outside (r : Refusal)

/-- Takes the host's oldest event (R35) and decodes its bytes. What the spec refuses is refused by name, and so are
bytes of no format (log entry 8); with no event the step is idle (log entry 9). -/
def fetch (s : State) : Fetched :=
  match s.platform.refusal with
  | some r => .outside r
  | none =>
    match s.inbox with
    | [] => .idle
    | .construct cfg :: rest => .construct cfg { s with inbox := rest }
    | .frame bs :: rest =>
      match decode bs with
      | .ok i => .run i { s with inbox := rest }
      | .error e => .outside (.undecodable e)
    | .decodeSample :: rest => .sample { s with inbox := rest }
    | .overlap _ _ :: _ => .outside .overlappingRequests

/-- The host derives both values from the word of the newest response, if it carries one (R55). -/
def State.decodeLatest (s : State) : State :=
  match s.responses.getLast? with
  | some (.ok (.raw v)) => s.hostDecode v
  | _ => s

/-- The pseudo-operation DECODE (R55): one ACQ, then, on status OK, DECODE of its word by the host. -/
def decodeSample (s : State) : Host.Outcome State Fault Refusal :=
  match execAcq s with
  | .next t => .next t.decodeLatest
  | .fault f => .fault f
  | .refused r => .refused r

/-- The host presents the instruction of `nbits` bits whose bits are `w` as its next event; everything else stays. -/
def State.present (s : State) (nbits w : Nat) : State := { s with inbox := .frame (layOut nbits w) :: s.inbox }

end Sys2Proof.Machine
end

