-- ==== Sys2Proof/Machine/Step.lean ====
section
/-! DEFINITION. The step: the host's oldest event is taken and has its effect, whole, before the next (R4, R35). -/

namespace Sys2Proof.Machine

/-- One operation is one atomic step (R4, R80, R90, R91). -/
def step (s : State) : Host.Outcome State Fault Refusal :=
  match fetch s with
  | .idle => .next s
  | .construct cfg t => construct cfg t
  | .run i t => exec i t
  | .sample t => decodeSample t
  | .outside r => .refused r

/-- The state whose very next step runs the instruction of `nbits` bits whose bits are `w`: the host presents it
(log entry 1). -/
def State.withFetchWord (s : State) (nbits w : Nat) : State := s.present nbits w

end Sys2Proof.Machine
end

