-- ==== Sys2Proof/Safety.lean ====
section
/-! DEFINITION. What the statements call a sound state, a host and transport that keep their side, and the end of a
run (`spec/70_reset_and_hazards.md` rules R121, R125, R127, R130). -/

namespace Sys2Proof.Safety

open Sys2Proof.Machine

/-- The call is a configure. -/
def isConfigure : TransportCall → Bool
  | .configure _ _ => true
  | .read _ => false
  | .close => false

/-- The response reports on a transport read (R92: which responses follow a read). -/
def fromRead : Response → Bool
  | .ok (.raw _) => true
  | .ok (.temperature _) => true
  | .ok (.connected _) => true
  | .ok .released => false
  | .error .resourceClosed => false
  | .error .thermocoupleFault => true
  | .error (.transportError _) => true

/-- The end state meets the owner's duty to release: OPEN = 0 (R127, R130). -/
def dutyMet (e : EndState) : Bool := !e.block.isOpen

/-- The state is one that CONSTRUCT and steps lead to: the promises the spec makes of the whole machine. -/
structure Inv (s : State) : Prop where
  /-- MODE is 0 at all times (R12, R126) -/
  mode_zero : s.block.mode = 0#2
  /-- the transport was configured once, first, with CFG and MODE (R26, R91) -/
  configured_first : ∃ cs, s.calls = .configure s.block.cfg s.block.mode :: cs ∧ ∀ c ∈ cs, isConfigure c = false
  /-- OPEN equals what the transport's `is_open()` would answer (R11) -/
  open_mirrors : s.block.isOpen = isOpenAfter s.calls
  /-- `TransportClose` is called exactly once per instance, by the CLS that leaves Open (R90) -/
  closed_once : s.calls.count .close = if s.block.isOpen then 0 else 1
  /-- a closed transport is not touched again (R101) -/
  close_is_last : s.block.isOpen = false → s.calls.getLast? = some .close
  /-- each OK response of a CLS goes with its close call (R90) -/
  released_with_close : s.responses.count (.ok .released) = s.calls.count .close
  /-- every read is of two bytes (R30) -/
  reads_two : ∀ n, TransportCall.read n ∈ s.calls → n = 2
  /-- each read has exactly one response that reports on it, and no response reports on a read not made (R84) -/
  read_answered_once : s.responses.countP fromRead = s.calls.count (.read 2)
  /-- a transport error's payload has TERR_W bits (R27, R103) -/
  payload_fits : ∀ e, Response.error (.transportError e) ∈ s.responses → e.toNat < 2 ^ s.platform.terrW.val
  /-- the fault flag and connectivity of one word are each other's negation (R67, R76) -/
  decoded_consistent : ∀ d ∈ s.decoded, d.connected = !d.fault
  /-- a run that another one followed had met its owner's duty, its close the last call (R23, R90, R127) -/
  ended_released : ∀ e ∈ s.ended, dutyMet e = true ∧ e.calls.getLast? = some .close

/-- The reply keeps the transport's contract and comes (R27, R129). -/
def replyKeeps (w : Fin 17) (r : Reply) : Bool :=
  match readReply w r with
  | .got _ => true
  | .silent => false
  | .outside _ => false

/-- The event is a single request, a status word to decode, or the pseudo-operation DECODE (R49, R55, R76). -/
def eventPlain : HostEvent → Bool
  | .construct _ => false
  | .frame bs => frameWf bs
  | .decodeSample => true
  | .overlap _ _ => false

/-- Platform, transport and host keep their side (R26, R27, R36, R121): everything the spec presupposes of a finite
sequence of requests. -/
def keepsContract (s : State) : Bool :=
  s.platform.refusal.isNone && s.script.all (replyKeeps s.platform.terrW) && s.inbox.all eventPlain

/-- The run has ended (R130): the host has no further request in it. The last response has been delivered too, since
every step delivers its response. What else may wait, a status word or the next CONSTRUCT, is no request of this run
(log entry 21). -/
def runEnded (s : State) : Bool := !s.requestWaits

/-- The run has ended and its owner has met the duty (R127, R130). -/
def ownerDutyMet (s : State) : Bool := runEnded s && dutyMet s.endState

/-- The premise of R125: with the T- pin grounded, bit 2 of the word says whether a thermocouple is attached. -/
def flagTruthful (attached : Bool) (v : Word) : Prop := fault v = !attached

end Sys2Proof.Safety
end

