-- ==== Sys2Proof/Certificates/Slice0/Obligations.lean ====
section
/-! DEFINITION. The statements for the provers, file by file of the spec. An effect is written as the whole next state
(`{ s with … }`), so each such statement is its own frame: every field not named is unchanged. -/

open Sys2Proof Sys2Proof.Machine Sys2Proof.Safety

/-! ### The decode datapath (`spec/40_decode_datapath.md`) -/

/-- R65, WORD. -/
def Obligations.WordPutsFirstByteHigh : Prop :=
  (∀ b0 b1 : Byte, word b0 b1 = (b0.setWidth 16 <<< 8 ||| b1.setWidth 16) ∧
    (word b0 b1).toNat = 256 * b0.toNat + b1.toNat) ∧
  (∀ (v : Word) (b0 b1 : Byte), word b0 b1 = v ↔ b0 = v.extractLsb' 8 8 ∧ b1 = v.extractLsb' 0 8) ∧
  word 0x00#8 0x00#8 = 0x0000#16 ∧ word 0xFF#8 0xFF#8 = 0xFFFF#16 ∧ word 0x00#8 0xFF#8 = 0x00FF#16 ∧
  word 0xFF#8 0x00#8 = 0xFF00#16 ∧ word 0x0C#8 0x80#8 = 0x0C80#16

/-- R66, FAULT: bit 2 and no other bit. -/
def Obligations.FaultIsBitTwoAlone : Prop :=
  (∀ v : Word, (fault v = true ↔ v &&& 0x0004#16 ≠ 0#16) ∧ fault v = v.getLsbD 2) ∧
  (∀ v w : Word, v.getLsbD 2 = w.getLsbD 2 → fault v = fault w) ∧
  fault 0x0004#16 = true ∧ fault 0x0003#16 = false ∧ fault 0x0008#16 = false ∧ fault 0xFFFB#16 = false ∧
  fault 0xFFFF#16 = true ∧ fault 0x0C84#16 = true

/-- R67, CONNECTED. -/
def Obligations.ConnectedNegatesFault : Prop :=
  (∀ v : Word, (connected v = true ↔ v &&& 0x0004#16 = 0#16) ∧ connected v = !fault v) ∧
  connected 0x0000#16 = true ∧ connected 0x0004#16 = false ∧ connected 0xFFFB#16 = true ∧ connected 0x0C80#16 = true

/-- R68, MAG: bits 14..3, bit 15 masked out; on words with bit 15 clear the source's unmasked formula. -/
def Obligations.MagMasksBitFifteen : Prop :=
  (∀ v : Word, (mag v).setWidth 16 = v >>> 3 &&& 0x0FFF#16) ∧
  (∀ (v : Word) (k : Nat), k < 12 → (mag v).getLsbD k = v.getLsbD (3 + k)) ∧
  (∀ v : Word, (mag v).toNat ≤ 4095) ∧
  (∀ v : Word, mag v = mag (v &&& 0x7FF8#16)) ∧
  (∀ v : Word, v.getLsbD 15 = false → (mag v).toNat = v.toNat / 8) ∧
  (∀ v : Word, v.getLsbD 15 = true → (mag v).toNat + 4096 = v.toNat / 8) ∧
  mag 0x0000#16 = 0#12 ∧ mag 0x0007#16 = 0#12 ∧ mag 0x0008#16 = 1#12 ∧ mag 0x7FF8#16 = 4095#12 ∧
  mag 0x8000#16 = 0#12 ∧ mag 0xFFFB#16 = 4095#12 ∧ mag 0xFFFF#16 = 4095#12 ∧ mag 0x0C80#16 = 400#12

/-- R69, TEMPQ: the same 12 bits, denoting exactly a quarter of them in degrees; every step is 0.25, nothing is
rounded or clamped. -/
def Obligations.TempqScalesExactly : Prop :=
  (∀ v : Word, tempq v = mag v ∧ tempC v = ((mag v).toNat : Rat) * (1 / 4)) ∧
  (∀ v : Word, 0 ≤ tempC v ∧ tempC v ≤ 1023.75) ∧
  (∀ v w : Word, tempC v = tempC w ↔ mag v = mag w) ∧
  (∀ m : Mag, ∃ v : Word, fault v = false ∧ tempq v = m) ∧
  tempq 0x0000#16 = 0x000#12 ∧ tempq 0x0008#16 = 0x001#12 ∧ tempq 0x0020#16 = 0x004#12 ∧
  tempq 0xFFFB#16 = 0xFFF#12 ∧ tempC 0xFFFB#16 = 1023.75 ∧ tempC 0x0C80#16 = 100

/-- R70, TEMP_INT and TEMP_FRAC. -/
def Obligations.TempSplitsIntoDegreesAndQuarters : Prop :=
  (∀ v : Word, tempInt v = v.extractLsb' 5 10 ∧ tempFrac v = v.extractLsb' 3 2) ∧
  (∀ v : Word, tempq v = ((tempInt v).setWidth 12 <<< 2) ||| (tempFrac v).setWidth 12) ∧
  (∀ v : Word, ((tempInt v).toNat : Int) = ⌊tempC v⌋ ∧
    tempC v = ((tempInt v).toNat : Rat) + ((tempFrac v).toNat : Rat) * (1 / 4)) ∧
  tempInt 0x0CA8#16 = 101#10 ∧ tempFrac 0x0CA8#16 = 1#2

/-- R75: words agree in flag and temperature exactly when they agree on bits 14..2; each pair has eight words. -/
def Obligations.EachReadingHasEightWords : Prop :=
  (∀ v w : Word, (fault v = fault w ∧ tempq v = tempq w) ↔ v &&& 0x7FFC#16 = w &&& 0x7FFC#16) ∧
  (∀ (f : Bool) (m : Mag), Set.ncard { v : Word | fault v = f ∧ mag v = m } = 8) ∧
  (∀ (m : Mag) (v : Word), (fault v = false ∧ mag v = m) ↔
    ∃ (r : BitVec 1) (i : BitVec 2), v = (m.setWidth 16 <<< 3) ||| (r.setWidth 16 <<< 15) ||| i.setWidth 16)

/-- R73: the two classes, told apart by bit 2 alone, of 32,768 words each, and what each class means. -/
def Obligations.WordsFallIntoTwoClasses : Prop :=
  (∀ v : Word, (v &&& 0x0004#16 = 0x0000#16 ∧ decodeWord v = .swNofault (rsv15 v) (mag v) (ident v) ∧
      fault v = false ∧ connected v = true) ∨
    (v &&& 0x0004#16 = 0x0004#16 ∧ decodeWord v = .swFault (rsv15 v) (mag v) (ident v) ∧
      fault v = true ∧ connected v = false)) ∧
  Set.ncard { v : Word | v &&& 0x0004#16 = 0x0000#16 } = 32768 ∧
  Set.ncard { v : Word | v &&& 0x0004#16 = 0x0004#16 } = 32768

/-- R76, DECODE: all from the same word, and in agreement with RDT and CON on that word. -/
def Obligations.JointDecodeAgreesWithQueries : Prop :=
  (∀ v : Word, decodeJoint v = { fault := fault v, connected := connected v, tempq := tempq v }) ∧
  ∀ (s : State) (b0 b1 : Byte), s.block.isOpen = true → s.nextRead = .got (.bytes b0 b1) →
    ∃ t u, exec .rdt s = .next t ∧ exec .con s = .next u ∧
      (t.responses = s.responses ++ [.ok (.temperature (decodeJoint (word b0 b1)).tempq)] ↔
        (decodeJoint (word b0 b1)).fault = false) ∧
      u.responses = s.responses ++ [.ok (.connected (decodeJoint (word b0 b1)).connected)]

/-! ### Encodings (`spec/30_encoding.md`) -/

/-- No bit of an encoding is dropped: every instruction, with every field at every value, comes back. -/
def Obligations.DecodeInvertsEncode : Prop :=
  ∀ i : Instr, decode (encode i) = .ok i

/-- No two frames have one meaning: bytes that decode are the encoding of what they decode to. For a frame of one byte
this is the model's choice (log entry 8): the spec gives a request two bits (R49) and no byte, and the model rejects a
byte of 4 or more. -/
def Obligations.EncodeInvertsDecode : Prop :=
  ∀ (bs : List Byte) (i : Instr), decode bs = .ok i → encode i = bs

/-- No status word and no request code is illegal, and the response uses all four codes (R54). That a request code
decodes zero-extended in one byte is the model's choice (log entry 8). -/
def Obligations.NoWordOrCodeIsIllegal : Prop :=
  (∀ op : ReqOp, decode [op.setWidth 8] = .ok (decodeReq op) ∧ (decodeReq op).isRequest = true) ∧
  (∀ i : Instr, i.isRequest = true → ∃! op : ReqOp, decodeReq op = i) ∧
  (∀ b0 b1 : Byte, decode [b0, b1] =
    .ok (if b1.getLsbD 2 then .swFault (rsv15 (word b0 b1)) (mag (word b0 b1)) (ident (word b0 b1))
      else .swNofault (rsv15 (word b0 b1)) (mag (word b0 b1)) (ident (word b0 b1)))) ∧
  (∀ c : BitVec 2, ∃ r : Response, r.status = c)

/-- Bytes of no format are rejected, each by its name, and nothing else is. The byte that carries a request code is
the model's choice (log entry 8). -/
def Obligations.OtherFramesAreRejectedByName : Prop :=
  decode [] = .error .empty ∧
  (∀ b : Byte, 4 ≤ b.toNat → decode [b] = .error (.notARequest b)) ∧
  (∀ bs : List Byte, 2 < bs.length → decode bs = .error (.tooLong bs.length)) ∧
  (∀ bs : List Byte, (∃ i, decode bs = .ok i) ↔ frameWf bs = true)

/-- Words written out bit by bit: status words from R45, in the two bytes of R48, and the request codes of R49. That a
request code stands in a byte with zeros above it is the model's choice (log entry 8). -/
def Obligations.SpecWordsDecodeRight : Prop :=
  decode [0b00#8] = .ok .acq ∧ decode [0b01#8] = .ok .rdt ∧ decode [0b10#8] = .ok .con ∧ decode [0b11#8] = .ok .cls ∧
  decode [0b10000000#8, 0b00001001#8] = .ok (.swNofault 1#1 1#12 1#2) ∧
  decode [0b00001100#8, 0b10000110#8] = .ok (.swFault 0#1 400#12 2#2)

/-- R50: the status code tells the value and the three error kinds apart. -/
def Obligations.StatusCodesTellOutcomesApart : Prop :=
  ∀ r : Response, (r.status = 0b00#2 ↔ ∃ v, r = .ok v) ∧ (r.status = 0b01#2 ↔ r = .error .resourceClosed) ∧
    (r.status = 0b10#2 ↔ r = .error .thermocoupleFault) ∧ (r.status = 0b11#2 ↔ ∃ e, r = .error (.transportError e))

/-- R51: the layouts of `rsp_data`. -/
def Obligations.ResponseDataLayouts : Prop :=
  (∀ v : Word, (Response.ok (.raw v)).data = v) ∧
  (∀ q : Mag, (Response.ok (.temperature q)).data.toNat = q.toNat ∧
    (Response.ok (.temperature q)).data &&& 0xF000#16 = 0#16) ∧
  (∀ c : Bool, (Response.ok (.connected c)).data = if c then 1#16 else 0#16) ∧
  (∀ r : Response, r = .ok .released ∨ r = .error .resourceClosed ∨ r = .error .thermocoupleFault → r.data = 0x0000#16) ∧
  (∀ e : BitVec 16, (Response.error (.transportError e)).data = e)

/-! ### The query operations (`spec/41_query_ops.md`) -/

/-- R81, ACQ: its value and each of its errors, the whole next state. -/
def Obligations.AcqFollowsItsRule : Prop :=
  decodeReq 0b00#2 = .acq ∧ ∀ s : State,
    (s.block.isOpen = false →
      exec .acq s = .next { s with responses := s.responses ++ [.error .resourceClosed] }) ∧
    (s.block.isOpen = true → ∀ e, s.nextRead = .got (.err e) →
      exec .acq s = .next { s with
        calls := s.calls ++ [.read 2], script := s.script.tail, draws := s.draws + 1,
        responses := s.responses ++ [.error (.transportError e)] }) ∧
    (s.block.isOpen = true → ∀ b0 b1, s.nextRead = .got (.bytes b0 b1) →
      exec .acq s = .next { s with
        calls := s.calls ++ [.read 2], script := s.script.tail, draws := s.draws + 1,
        responses := s.responses ++ [.ok (.raw (BitVec.ofNat 16 (256 * b0.toNat + b1.toNat)))] })

/-- R82, RDT: its value and each of its errors, the whole next state; the value is bits 14..3 of the word. -/
def Obligations.RdtFollowsItsRule : Prop :=
  decodeReq 0b01#2 = .rdt ∧ ∀ s : State,
    (s.block.isOpen = false →
      exec .rdt s = .next { s with responses := s.responses ++ [.error .resourceClosed] }) ∧
    (s.block.isOpen = true → ∀ e, s.nextRead = .got (.err e) →
      exec .rdt s = .next { s with
        calls := s.calls ++ [.read 2], script := s.script.tail, draws := s.draws + 1,
        responses := s.responses ++ [.error (.transportError e)] }) ∧
    (s.block.isOpen = true → ∀ b0 b1, s.nextRead = .got (.bytes b0 b1) → (word b0 b1).getLsbD 2 = true →
      exec .rdt s = .next { s with
        calls := s.calls ++ [.read 2], script := s.script.tail, draws := s.draws + 1,
        responses := s.responses ++ [.error .thermocoupleFault] }) ∧
    (s.block.isOpen = true → ∀ b0 b1, s.nextRead = .got (.bytes b0 b1) → (word b0 b1).getLsbD 2 = false →
      exec .rdt s = .next { s with
        calls := s.calls ++ [.read 2], script := s.script.tail, draws := s.draws + 1,
        responses := s.responses ++ [.ok (.temperature (BitVec.ofNat 12 ((word b0 b1).toNat / 8)))] } ∧
      (Response.ok (.temperature (BitVec.ofNat 12 ((word b0 b1).toNat / 8)))).data.toNat ≤ 0x0FFF)

/-- R83, CON: its value and each of its errors, the whole next state. -/
def Obligations.ConFollowsItsRule : Prop :=
  decodeReq 0b10#2 = .con ∧ ∀ s : State,
    (s.block.isOpen = false →
      exec .con s = .next { s with responses := s.responses ++ [.error .resourceClosed] }) ∧
    (s.block.isOpen = true → ∀ e, s.nextRead = .got (.err e) →
      exec .con s = .next { s with
        calls := s.calls ++ [.read 2], script := s.script.tail, draws := s.draws + 1,
        responses := s.responses ++ [.error (.transportError e)] }) ∧
    (s.block.isOpen = true → ∀ b0 b1, s.nextRead = .got (.bytes b0 b1) →
      exec .con s = .next { s with
        calls := s.calls ++ [.read 2], script := s.script.tail, draws := s.draws + 1,
        responses := s.responses ++ [.ok (.connected (decide (word b0 b1 &&& 0x0004#16 = 0#16)))] })

/-- The source's own temperature property (`95_test_vectors.md` T6, conflict C1) end to end: RDT returns the quarter
degrees (v >> 3) masked to 12 bits, and (v >> 3) itself on words with bit 15 clear. -/
def Obligations.RdtReturnsQuarterDegrees : Prop :=
  ∀ (s : State) (b0 b1 : Byte), s.block.isOpen = true → s.nextRead = .got (.bytes b0 b1) → b1.getLsbD 2 = false →
    ∃ t q, exec .rdt s = .next t ∧ t.responses = s.responses ++ [.ok (.temperature q)] ∧
      celsius q = (((256 * b0.toNat + b1.toNat) / 8 % 4096 : Nat) : Rat) * (1 / 4) ∧
      (b0.toNat < 128 → q.toNat = (256 * b0.toNat + b1.toNat) / 8)

/-- One fresh transaction per query in state Open, whatever comes of it, and none otherwise; so many queries, so many
reads (R84). That the record counted after CONSTRUCT is a new one is the model's choice (log entry 10), and so is that
the queries wait in the inbox (log entry 1). -/
def Obligations.QueriesReadExactlyOnceEach : Prop :=
  (∀ (i : Instr) (s t : State), exec i s = .next t →
    t.calls.count (.read 2) = s.calls.count (.read 2) + (if i.isQuery && s.block.isOpen then 1 else 0)) ∧
  (∀ (cfg : Cfg) (s t : State), construct cfg s = .next t → t.calls.count (.read 2) = 0) ∧
  ∀ (ops : List Instr) (s : State), (∀ i ∈ ops, i.isQuery = true) → s.platform.refusal = none →
    s.block.isOpen = true → s.script.all (replyKeeps s.platform.terrW) = true →
    s.inbox = ops.map (fun i => HostEvent.frame (encode i)) →
    ∃ t : State, Host.Core.run Sys2Proof.core ops.length s = .next t ∧ t.inbox = [] ∧ t.block = s.block ∧
      t.calls = s.calls ++ List.replicate ops.length (.read 2) ∧
      t.responses.length = s.responses.length + ops.length

/-- R85: on one and the same word CON answers connected exactly when RDT raises no ThermocoupleFault. -/
def Obligations.ConAndRdtAgreeOnTheFault : Prop :=
  ∀ (s : State) (b0 b1 : Byte), s.block.isOpen = true → s.nextRead = .got (.bytes b0 b1) →
    ∃ t u, exec .con s = .next t ∧ exec .rdt s = .next u ∧
      (t.responses = s.responses ++ [.ok (.connected true)] ↔
        u.responses ≠ s.responses ++ [.error .thermocoupleFault])

/-- A query stops only where the transport leaves its contract or never answers (R27, R41), each stop under its own
name; a transport with no scripted reply left does answer, and every other instruction always goes on. The model's own
here: the refusal of a payload wider than TERR_W (log entry 5), the named fault for the spec's stuck operation (log
entry 11), and the free answer where no reply is scripted, which is how the fairness of R129 is taken (log entries 2
and 17). -/
def Obligations.QueriesStopOnlyOnBrokenTransport : Prop :=
  (∀ (i : Instr) (s : State), i.isQuery = true → s.block.isOpen = true →
    (∀ rest, s.script = .never :: rest → exec i s = .fault .transportNeverAnswers) ∧
    (∀ bs rest, s.script = .data bs :: rest → bs.length ≠ 2 → exec i s = .refused .transportByteCount) ∧
    (∀ e rest, s.script = .error e :: rest → 2 ^ s.platform.terrW.val ≤ e.toNat →
      exec i s = .refused .transportPayloadWidth) ∧
    (s.script = [] → ∃ a t, s.nextRead = .got a ∧ exec i s = .next t)) ∧
  ∀ (i : Instr) (s : State), (∃ t, exec i s = .next t) ∨
    (i.isQuery = true ∧ s.block.isOpen = true ∧ ∃ r rest, s.script = r :: rest ∧ replyKeeps s.platform.terrW r = false)

/-! ### The lifecycle (`spec/42_lifecycle_ops.md`, `spec/10_state.md`) -/

/-- R90, CLS: the whole next state in both states of the instance. -/
def Obligations.ClsFollowsItsRule : Prop :=
  decodeReq 0b11#2 = .cls ∧ ∀ s : State,
    (s.block.isOpen = false →
      exec .cls s = .next { s with responses := s.responses ++ [.error .resourceClosed] }) ∧
    (s.block.isOpen = true →
      exec .cls s = .next { s with
        block := { s.block with isOpen := false }, calls := s.calls ++ [.close],
        responses := s.responses ++ [.ok .released] } ∧
      (Response.ok .released).status = 0b00#2 ∧ (Response.ok .released).data = 0x0000#16)

/-- CONSTRUCT as an event of the host (R91, R120), the whole next state; whatever mode the configuration names, MODE is
0. That the record of the run begins anew, the end state of the run before it kept, is the model's choice (log
entry 10). -/
def Obligations.ConstructFollowsItsRule : Prop :=
  ∀ (s : State) (cfg : Cfg) (rest : List HostEvent), s.platform.refusal = none → s.inbox = .construct cfg :: rest →
    s.block.isOpen = false →
    step s = .next { s with
      inbox := rest, block := { isOpen := true, mode := 0#2, cfg := cfg }, responses := [],
      calls := [.configure cfg 0#2], decoded := [],
      ended := s.ended ++ [{ block := s.block, responses := s.responses, calls := s.calls }] }

/-- R22: what construction leaves, from any Closed instance and in the state of reset. -/
def Obligations.ConstructLeavesResetValues : Prop :=
  (∀ (s : State) (cfg : Cfg), s.block.isOpen = false →
    ∃ t, construct cfg s = .next t ∧ t.block = { isOpen := true, mode := 0#2, cfg := cfg } ∧ t.responses = []) ∧
  ∀ cfg : Cfg, (State.afterConstruct cfg).block = { isOpen := true, mode := 0#2, cfg := cfg } ∧
    (State.afterConstruct cfg).responses = []

/-- R23: only CONSTRUCT leads back from Closed, and an instance that is still Open is not constructed again. -/
def Obligations.OnlyConstructLeavesClosed : Prop :=
  (∀ s t : State, s.block.isOpen = false → step s = .next t → t.block.isOpen = true →
    ∃ cfg rest, s.inbox = .construct cfg :: rest ∧ t.block.cfg = cfg) ∧
  ∀ (s : State) (cfg : Cfg) (rest : List HostEvent), s.platform.refusal = none → s.inbox = .construct cfg :: rest →
    s.block.isOpen = true → step s = .refused .constructWhileOpen

/-- The block's own state under every operation (R10, R11, R12, R13): only CLS writes it, and only OPEN. -/
def Obligations.OnlyClsWritesTheBlock : Prop :=
  ∀ (i : Instr) (s t : State), exec i s = .next t →
    t.block = if i = .cls then { s.block with isOpen := false } else s.block

/-- The transport sees, of every operation, exactly the calls of the contract table (R26). -/
def Obligations.TransportCallsOfEachOperation : Prop :=
  ∀ (i : Instr) (s t : State), exec i s = .next t →
    t.calls = s.calls ++
      (if s.block.isOpen then (if i.isQuery then [.read 2] else if i = .cls then [.close] else []) else [])

/-! ### Errors (`spec/60_exceptions.md`) -/

/-- R101: every request on a Closed instance, and only such a request, is answered ResourceClosed, and touches
nothing. -/
def Obligations.ClosedInstanceAnswersResourceClosed : Prop :=
  (∀ (i : Instr) (s : State), i.isRequest = true → s.block.isOpen = false →
    exec i s = .next { s with responses := s.responses ++ [.error .resourceClosed] }) ∧
  (∀ (i : Instr) (s t : State), exec i s = .next t → t.responses = s.responses ++ [.error .resourceClosed] →
    i.isRequest = true ∧ s.block.isOpen = false) ∧
  (Response.error .resourceClosed).data = 0x0000#16

/-- R102: exactly an RDT on a word whose bit 2 is set raises ThermocoupleFault; the transaction has happened, nothing
is recorded, no state changes. -/
def Obligations.ThermocoupleFaultOnlyFromRdt : Prop :=
  (∀ (i : Instr) (s t : State), exec i s = .next t →
    (t.responses = s.responses ++ [.error .thermocoupleFault] ↔
      i = .rdt ∧ s.block.isOpen = true ∧ ∃ b0 b1, s.nextRead = .got (.bytes b0 b1) ∧ b1.getLsbD 2 = true) ∧
    (t.responses = s.responses ++ [.error .thermocoupleFault] →
      t.block = s.block ∧ t.calls = s.calls ++ [.read 2])) ∧
  (Response.error .thermocoupleFault).data = 0x0000#16

/-- R103: exactly a query whose read fails raises TransportError, with the payload as received, and OPEN stays. -/
def Obligations.TransportErrorIsPropagatedUnchanged : Prop :=
  ∀ (i : Instr) (s t : State) (e : BitVec 16), exec i s = .next t →
    (t.responses = s.responses ++ [.error (.transportError e)] ↔
      i.isQuery = true ∧ s.block.isOpen = true ∧ s.nextRead = .got (.err e)) ∧
    (t.responses = s.responses ++ [.error (.transportError e)] →
      t.block = s.block ∧ t.calls = s.calls ++ [.read 2]) ∧
    (Response.error (.transportError e)).data = e

/-- R105: a request has one response, so at most one error, and the first condition met decides: the closed test, then
the transport's answer, and only then bit 2. -/
def Obligations.FirstErrorMetIsReported : Prop :=
  ∀ (i : Instr) (s t : State), i.isRequest = true → exec i s = .next t →
    ∃ r, t.responses = s.responses ++ [r] ∧
      (s.block.isOpen = false → r = .error .resourceClosed) ∧
      (∀ e, s.block.isOpen = true → i.isQuery = true → s.nextRead = .got (.err e) → r = .error (.transportError e)) ∧
      (r = .error .thermocoupleFault → s.block.isOpen = true ∧ ∃ b0 b1, s.nextRead = .got (.bytes b0 b1))

/-- An operation that raises changes no state of the block and returns no value (R107, R108): beside the error
response, at most the one read it made. -/
def Obligations.ErrorsChangeNothingElse : Prop :=
  ∀ (i : Instr) (s t : State) (k : ErrorKind), exec i s = .next t → t.responses = s.responses ++ [.error k] →
    t = { s with responses := s.responses ++ [.error k] } ∨
    t = { s with
      responses := s.responses ++ [.error k], calls := s.calls ++ [.read 2], script := s.script.tail,
      draws := s.draws + 1 }

/-! ### The status word as an instruction, and the pseudo-operation DECODE (R55, R73, R76) -/

/-- A status word is parsed into flag, connectivity and magnitude whatever its bits 15 and 1..0, and nothing else
changes. That running an SW16 row is the host's DECODE is the model's choice (log entry 7). -/
def Obligations.StatusWordsAreParsed : Prop :=
  ∀ (r : BitVec 1) (m : Mag) (d : BitVec 2) (s : State),
    exec (.swNofault r m d) s =
      .next { s with decoded := s.decoded ++ [{ fault := false, connected := true, tempq := m }] } ∧
    exec (.swFault r m d) s =
      .next { s with decoded := s.decoded ++ [{ fault := true, connected := false, tempq := m }] }

/-- The pseudo-operation DECODE (R55): one request, one transaction, and both values from that word; when the ACQ is
answered with an error there is no word and nothing is decoded. That it is one step is the model's choice (log
entry 16). -/
def Obligations.PseudoDecodeIsOneAcqThenDecode : Prop :=
  ∀ (s : State) (rest : List HostEvent), s.platform.refusal = none → s.inbox = .decodeSample :: rest →
    (s.block.isOpen = true → ∀ b0 b1, s.nextRead = .got (.bytes b0 b1) →
      step s = .next { s with
        inbox := rest, calls := s.calls ++ [.read 2], script := s.script.tail, draws := s.draws + 1,
        responses := s.responses ++ [.ok (.raw (word b0 b1))],
        decoded := s.decoded ++ [{
          fault := (word b0 b1).getLsbD 2, connected := !(word b0 b1).getLsbD 2, tempq := tempq (word b0 b1) }] }) ∧
    (s.block.isOpen = true → ∀ e, s.nextRead = .got (.err e) →
      step s = .next { s with
        inbox := rest, calls := s.calls ++ [.read 2], script := s.script.tail, draws := s.draws + 1,
        responses := s.responses ++ [.error (.transportError e)] }) ∧
    (s.block.isOpen = false →
      step s = .next { s with inbox := rest, responses := s.responses ++ [.error .resourceClosed] })

/-! ### What nothing depends on -/

/-- Bits 15 and 1..0 of the word make no difference to RDT and CON (R46, R47), and every bit makes one to ACQ. -/
def Obligations.ReservedBitsMakeNoDifference : Prop :=
  ∀ (s : State) (b0 b1 c0 c1 : Byte) (rest : List Reply), s.block.isOpen = true →
    (word b0 b1 &&& 0x7FFC#16 = word c0 c1 &&& 0x7FFC#16 →
      exec .rdt { s with script := .data [b0, b1] :: rest } = exec .rdt { s with script := .data [c0, c1] :: rest } ∧
      exec .con { s with script := .data [b0, b1] :: rest } = exec .con { s with script := .data [c0, c1] :: rest }) ∧
    (word b0 b1 ≠ word c0 c1 →
      exec .acq { s with script := .data [b0, b1] :: rest } ≠ exec .acq { s with script := .data [c0, c1] :: rest })

/-- No operation reads CFG or MODE (R13, R72): replacing them changes nothing but themselves. -/
def Obligations.NoOperationReadsCfgOrMode : Prop :=
  ∀ (i : Instr) (s t : State) (cfg : Cfg) (mode : BitVec 2), exec i s = .next t →
    exec i { s with block := { s.block with cfg := cfg, mode := mode } } =
      .next { t with block := { t.block with cfg := cfg, mode := mode } }

/-- Nothing latches and nothing is cached (R16, R17, R108): an operation answers from OPEN and the transport's answer
alone, whatever happened before. -/
def Obligations.HistoryMakesNoDifference : Prop :=
  ∀ (i : Instr) (s s' t : State) (rs : List Response), s.block.isOpen = s'.block.isOpen → s.nextRead = s'.nextRead →
    exec i s = .next t → t.responses = s.responses ++ rs →
    ∃ t', exec i s' = .next t' ∧ t'.responses = s'.responses ++ rs

/-- Two operations are two samples (R122): a CON that answers connected promises nothing of the RDT after it, nor does
one that answers not connected. -/
def Obligations.TwoOperationsAreTwoSamples : Prop :=
  (∃ s t u : State, exec .con s = .next t ∧ t.responses = s.responses ++ [.ok (.connected true)] ∧
    exec .rdt t = .next u ∧ u.responses = t.responses ++ [.error .thermocoupleFault]) ∧
  ∃ (s t u : State) (q : Mag), exec .con s = .next t ∧ t.responses = s.responses ++ [.ok (.connected false)] ∧
    exec .rdt t = .next u ∧ u.responses = t.responses ++ [.ok (.temperature q)]

/-- What the premise of R125 buys. No definition speaks of a pin: that grounding the T- pin makes the flag right is
modelled as the premise `flagTruthful` on this word, that its bit 2 is clear exactly when a thermocouple is attached
(log entry 20, the model's reading). Under it CON answers whether one is attached and RDT returns a temperature exactly
when one is. -/
def Obligations.GroundedPinMakesConTruthful : Prop :=
  ∀ (s : State) (b0 b1 : Byte) (attached : Bool), s.block.isOpen = true → s.nextRead = .got (.bytes b0 b1) →
    flagTruthful attached (word b0 b1) →
    ∃ t u, exec .con s = .next t ∧ t.responses = s.responses ++ [.ok (.connected attached)] ∧
      exec .rdt s = .next u ∧
      (u.responses = s.responses ++ [.ok (.temperature (tempq (word b0 b1)))] ↔ attached = true)

/-! ### The step (`spec/00_scope.md` R4, `spec/20_memory.md` R35, R36) -/

/-- When the bytes the host presents decode to an instruction, the step is that instruction's, the event taken. How
the host presents it is the model's choice (log entry 1). -/
def Obligations.StepRunsTheDecodedFrame : Prop :=
  ∀ (s : State) (bs : List Byte) (rest : List HostEvent) (i : Instr), s.platform.refusal = none →
    s.inbox = .frame bs :: rest → decode bs = .ok i → step s = exec i { s with inbox := rest }

/-- The block does nothing between operations and emits only responses to requests (R35, R104): one at most for each
event, and none unasked. That there is a step with no event, and that it answers the same state, is the model's choice
(log entry 9): the spec has no step without a request. -/
def Obligations.NothingIsEmittedUnasked : Prop :=
  (∀ s : State, s.platform.refusal = none → s.inbox = [] → step s = .next s) ∧
  ∀ s t : State, step s = .next t → t.responses ≠ s.responses →
    (t.inbox = s.inbox.tail ∧ s.inbox ≠ []) ∧
    ((∃ r, t.responses = s.responses ++ [r]) ∨ ∃ cfg, s.inbox.head? = some (.construct cfg))

/-- What is presented or stands around the block outside the spec's rules is refused, each under its own name: a second
request at once (R36); an unarbitrated bus or device, a shared instance (R24, R113); a transport whose configure or
close can fail (R26, U11); another clock mode (R12, U14). The model's own here: the event for overlapping requests (log
entry 12), the refusal of bytes of no format (log entry 8), the refusal where a boot requirement of R121 is missing,
and the order that names a platform which breaks several facts (log entry 6). -/
def Obligations.StepRefusesWhatTheSpecRefuses : Prop :=
  (∀ (s : State) (a b : ReqOp) (rest : List HostEvent), s.platform.refusal = none → s.inbox = .overlap a b :: rest →
    step s = .refused .overlappingRequests) ∧
  (∀ (s : State) (bs : List Byte) (e : DecodeError) (rest : List HostEvent), s.platform.refusal = none →
    s.inbox = .frame bs :: rest → decode bs = .error e → step s = .refused (.undecodable e)) ∧
  (∀ s : State, s.platform.notReady = true →
    s.platform.refusal = some .platformNotReady ∧ step s = .refused .platformNotReady) ∧
  (∀ s : State, s.platform.notReady = false → s.platform.configureCanFail = true →
    s.platform.refusal = some .configureCanFail ∧ step s = .refused .configureCanFail) ∧
  (∀ s : State, s.platform.notReady = false → s.platform.configureCanFail = false → s.platform.closeCanFail = true →
    s.platform.refusal = some .closeCanFail ∧ step s = .refused .closeCanFail) ∧
  (∀ s : State, s.platform.notReady = false → s.platform.configureCanFail = false → s.platform.closeCanFail = false →
      s.platform.modeOverridden = true →
    s.platform.refusal = some .modeOverridden ∧ step s = .refused .modeOverridden) ∧
  (∀ s : State, s.platform.notReady = false → s.platform.configureCanFail = false → s.platform.closeCanFail = false →
      s.platform.modeOverridden = false → s.platform.deviceShared = true →
    s.platform.refusal = some .deviceShared ∧ step s = .refused .deviceShared) ∧
  (∀ s : State, s.platform.notReady = false → s.platform.configureCanFail = false → s.platform.closeCanFail = false →
      s.platform.modeOverridden = false → s.platform.deviceShared = false → s.platform.busShared = true →
    s.platform.refusal = some .busShared ∧ step s = .refused .busShared) ∧
  (∀ s : State, s.platform.notReady = false → s.platform.configureCanFail = false → s.platform.closeCanFail = false →
      s.platform.modeOverridden = false → s.platform.deviceShared = false → s.platform.busShared = false →
      s.platform.hostsUnserialised = true →
    s.platform.refusal = some .hostsUnserialised ∧ step s = .refused .hostsUnserialised) ∧
  ∀ s : State, s.platform.notReady = false → s.platform.configureCanFail = false → s.platform.closeCanFail = false →
      s.platform.modeOverridden = false → s.platform.deviceShared = false → s.platform.busShared = false →
      s.platform.hostsUnserialised = false →
    s.platform.refusal = none

/-! ### The whole machine -/

/-- The state of reset meets the invariant, for every configuration. -/
def Obligations.ConstructedStateMeetsTheInvariant : Prop :=
  ∀ cfg : Cfg, Inv (State.afterConstruct cfg)

/-- Every step keeps the invariant: MODE 0, configure once and first, OPEN as `is_open()`, close exactly once and last,
reads of two bytes answered once each. -/
def Obligations.StepKeepsTheInvariant : Prop :=
  ∀ s t : State, Inv s → step s = .next t → Inv t

/-- A host and transport that keep their side never stop the block: every finite sequence of requests runs to its end,
in whatever state of the instance it begins, and the end is there exactly when no request of the host waits (R130; that
bytes of no format would be no request is the model's choice, log entry 21). -/
def Obligations.KeptContractsRunToTheEnd : Prop :=
  ∀ (s : State) (n : Nat), keepsContract s = true →
    ∃ t : State, Host.Core.run Sys2Proof.core n s = .next t ∧ keepsContract t = true ∧ t.inbox = s.inbox.drop n ∧
      (runEnded t = true ↔ ∀ e ∈ s.inbox.drop n, e.issuesRequest = false) ∧
      (s.inbox.length ≤ n → runEnded t = true)

/-- A run whose host issues a CLS as its last request meets the owner's duty (R127, R130), whatever came before, and
whatever waits behind it that is no request of this run: status words, the next CONSTRUCT and what follows it (log
entry 21). -/
def Obligations.FinalClsMeetsTheOwnersDuty : Prop :=
  ∀ (s : State) (es rest : List HostEvent), keepsContract { s with inbox := es } = true →
    s.inbox = es ++ .frame (encode .cls) :: rest → State.requestWaits { s with inbox := rest } = false →
    ∃ t : State, Host.Core.run Sys2Proof.core (es.length + 1) s = .next t ∧ t.inbox = rest ∧ ownerDutyMet t = true

/-- The end of a run (R130): no request waits before the next CONSTRUCT, whatever else waits; from then on no step
changes the end state until a CONSTRUCT is taken; and a CONSTRUCT is taken only where the run has ended and its owner
met the duty of R127 (R23), its end state kept. The model's own here: bytes of no format are no request, and requests
behind a waiting CONSTRUCT belong to the next run (log entry 21); the list of end states (log entry 10). -/
def Obligations.RunEndsWithItsLastRequest : Prop :=
  (∀ s : State, runEnded s = true ↔ ∀ (before after : List HostEvent) (e : HostEvent),
    s.inbox = before ++ e :: after → (∀ cfg, HostEvent.construct cfg ∉ before) → e.issuesRequest = false) ∧
  (∀ e : HostEvent, e.issuesRequest = true ↔ (∃ bs i, e = .frame bs ∧ decode bs = .ok i ∧ i.isRequest = true) ∨
    e = .decodeSample ∨ ∃ a b, e = .overlap a b) ∧
  (∀ s : State, ownerDutyMet s = true ↔ runEnded s = true ∧ s.block.isOpen = false) ∧
  (∀ (s t : State) (e : HostEvent) (rest : List HostEvent), s.inbox = e :: rest → (∀ cfg, e ≠ .construct cfg) →
    runEnded s = true → step s = .next t →
      runEnded t = true ∧ t.inbox = rest ∧ t.block = s.block ∧ t.responses = s.responses ∧ t.calls = s.calls ∧
      t.ended = s.ended) ∧
  ∀ (s t : State) (cfg : Cfg) (rest : List HostEvent), s.inbox = .construct cfg :: rest → step s = .next t →
    ownerDutyMet s = true ∧ t.ended = s.ended ++ [{ block := s.block, responses := s.responses, calls := s.calls }]
end

