-- ==== Sys2Proof/Laws/State.lean ====
section
/-! SUPPORT. For each state update, what each field reads afterwards: so that no proof unfolds a record update. -/

namespace Sys2Proof.Laws

open Sys2Proof.Machine

variable (s : State)

@[simp] theorem respond_block (r : Response) : (s.respond r).block = s.block := rfl
@[simp] theorem respond_responses (r : Response) : (s.respond r).responses = s.responses ++ [r] := rfl
@[simp] theorem respond_calls (r : Response) : (s.respond r).calls = s.calls := rfl
@[simp] theorem respond_decoded (r : Response) : (s.respond r).decoded = s.decoded := rfl
@[simp] theorem respond_ended (r : Response) : (s.respond r).ended = s.ended := rfl
@[simp] theorem respond_inbox (r : Response) : (s.respond r).inbox = s.inbox := rfl
@[simp] theorem respond_script (r : Response) : (s.respond r).script = s.script := rfl
@[simp] theorem respond_draws (r : Response) : (s.respond r).draws = s.draws := rfl
@[simp] theorem respond_platform (r : Response) : (s.respond r).platform = s.platform := rfl

@[simp] theorem raise_block (k : ErrorKind) : (s.raise k).block = s.block := rfl
@[simp] theorem raise_responses (k : ErrorKind) : (s.raise k).responses = s.responses ++ [.error k] := rfl
@[simp] theorem raise_calls (k : ErrorKind) : (s.raise k).calls = s.calls := rfl
@[simp] theorem raise_decoded (k : ErrorKind) : (s.raise k).decoded = s.decoded := rfl
@[simp] theorem raise_ended (k : ErrorKind) : (s.raise k).ended = s.ended := rfl
@[simp] theorem raise_inbox (k : ErrorKind) : (s.raise k).inbox = s.inbox := rfl
@[simp] theorem raise_script (k : ErrorKind) : (s.raise k).script = s.script := rfl
@[simp] theorem raise_draws (k : ErrorKind) : (s.raise k).draws = s.draws := rfl
@[simp] theorem raise_platform (k : ErrorKind) : (s.raise k).platform = s.platform := rfl

@[simp] theorem transportConfigure_block : (s.transportConfigure).block = s.block := rfl
@[simp] theorem transportConfigure_responses : (s.transportConfigure).responses = s.responses := rfl
@[simp] theorem transportConfigure_calls : (s.transportConfigure).calls = s.calls ++ [.configure s.block.cfg s.block.mode] := rfl
@[simp] theorem transportConfigure_decoded : (s.transportConfigure).decoded = s.decoded := rfl
@[simp] theorem transportConfigure_ended : (s.transportConfigure).ended = s.ended := rfl
@[simp] theorem transportConfigure_inbox : (s.transportConfigure).inbox = s.inbox := rfl
@[simp] theorem transportConfigure_script : (s.transportConfigure).script = s.script := rfl
@[simp] theorem transportConfigure_draws : (s.transportConfigure).draws = s.draws := rfl
@[simp] theorem transportConfigure_platform : (s.transportConfigure).platform = s.platform := rfl

@[simp] theorem transportClose_block : (s.transportClose).block = s.block := rfl
@[simp] theorem transportClose_responses : (s.transportClose).responses = s.responses := rfl
@[simp] theorem transportClose_calls : (s.transportClose).calls = s.calls ++ [.close] := rfl
@[simp] theorem transportClose_decoded : (s.transportClose).decoded = s.decoded := rfl
@[simp] theorem transportClose_ended : (s.transportClose).ended = s.ended := rfl
@[simp] theorem transportClose_inbox : (s.transportClose).inbox = s.inbox := rfl
@[simp] theorem transportClose_script : (s.transportClose).script = s.script := rfl
@[simp] theorem transportClose_draws : (s.transportClose).draws = s.draws := rfl
@[simp] theorem transportClose_platform : (s.transportClose).platform = s.platform := rfl

@[simp] theorem setOpen_block (v : Bool) : (s.setOpen v).block = { s.block with isOpen := v } := rfl
@[simp] theorem setOpen_responses (v : Bool) : (s.setOpen v).responses = s.responses := rfl
@[simp] theorem setOpen_calls (v : Bool) : (s.setOpen v).calls = s.calls := rfl
@[simp] theorem setOpen_decoded (v : Bool) : (s.setOpen v).decoded = s.decoded := rfl
@[simp] theorem setOpen_ended (v : Bool) : (s.setOpen v).ended = s.ended := rfl
@[simp] theorem setOpen_inbox (v : Bool) : (s.setOpen v).inbox = s.inbox := rfl
@[simp] theorem setOpen_script (v : Bool) : (s.setOpen v).script = s.script := rfl
@[simp] theorem setOpen_draws (v : Bool) : (s.setOpen v).draws = s.draws := rfl
@[simp] theorem setOpen_platform (v : Bool) : (s.setOpen v).platform = s.platform := rfl

@[simp] theorem afterRead_block : (s.afterRead).block = s.block := rfl
@[simp] theorem afterRead_responses : (s.afterRead).responses = s.responses := rfl
@[simp] theorem afterRead_calls : (s.afterRead).calls = s.calls ++ [.read 2] := rfl
@[simp] theorem afterRead_decoded : (s.afterRead).decoded = s.decoded := rfl
@[simp] theorem afterRead_ended : (s.afterRead).ended = s.ended := rfl
@[simp] theorem afterRead_inbox : (s.afterRead).inbox = s.inbox := rfl
@[simp] theorem afterRead_script : (s.afterRead).script = s.script.tail := rfl
@[simp] theorem afterRead_draws : (s.afterRead).draws = s.draws + 1 := rfl
@[simp] theorem afterRead_platform : (s.afterRead).platform = s.platform := rfl

@[simp] theorem hostDecode_block (v : Word) : (s.hostDecode v).block = s.block := rfl
@[simp] theorem hostDecode_responses (v : Word) : (s.hostDecode v).responses = s.responses := rfl
@[simp] theorem hostDecode_calls (v : Word) : (s.hostDecode v).calls = s.calls := rfl
@[simp] theorem hostDecode_decoded (v : Word) : (s.hostDecode v).decoded = s.decoded ++ [decodeJoint v] := rfl
@[simp] theorem hostDecode_ended (v : Word) : (s.hostDecode v).ended = s.ended := rfl
@[simp] theorem hostDecode_inbox (v : Word) : (s.hostDecode v).inbox = s.inbox := rfl
@[simp] theorem hostDecode_script (v : Word) : (s.hostDecode v).script = s.script := rfl
@[simp] theorem hostDecode_draws (v : Word) : (s.hostDecode v).draws = s.draws := rfl
@[simp] theorem hostDecode_platform (v : Word) : (s.hostDecode v).platform = s.platform := rfl

@[simp] theorem newInstance_block (cfg : Cfg) : (s.newInstance cfg).block = { s.block with cfg := cfg, mode := 0#2 } := rfl
@[simp] theorem newInstance_responses (cfg : Cfg) : (s.newInstance cfg).responses = [] := rfl
@[simp] theorem newInstance_calls (cfg : Cfg) : (s.newInstance cfg).calls = [] := rfl
@[simp] theorem newInstance_decoded (cfg : Cfg) : (s.newInstance cfg).decoded = [] := rfl
@[simp] theorem newInstance_ended (cfg : Cfg) : (s.newInstance cfg).ended = s.ended ++ [s.endState] := rfl
@[simp] theorem newInstance_inbox (cfg : Cfg) : (s.newInstance cfg).inbox = s.inbox := rfl
@[simp] theorem newInstance_script (cfg : Cfg) : (s.newInstance cfg).script = s.script := rfl
@[simp] theorem newInstance_draws (cfg : Cfg) : (s.newInstance cfg).draws = s.draws := rfl
@[simp] theorem newInstance_platform (cfg : Cfg) : (s.newInstance cfg).platform = s.platform := rfl

@[simp] theorem endState_block : s.endState.block = s.block := rfl
@[simp] theorem endState_responses : s.endState.responses = s.responses := rfl
@[simp] theorem endState_calls : s.endState.calls = s.calls := rfl

@[simp] theorem present_block (n w : Nat) : (s.present n w).block = s.block := rfl
@[simp] theorem present_responses (n w : Nat) : (s.present n w).responses = s.responses := rfl
@[simp] theorem present_calls (n w : Nat) : (s.present n w).calls = s.calls := rfl
@[simp] theorem present_decoded (n w : Nat) : (s.present n w).decoded = s.decoded := rfl
@[simp] theorem present_ended (n w : Nat) : (s.present n w).ended = s.ended := rfl
@[simp] theorem present_inbox (n w : Nat) : (s.present n w).inbox = .frame (layOut n w) :: s.inbox := rfl
@[simp] theorem present_script (n w : Nat) : (s.present n w).script = s.script := rfl
@[simp] theorem present_draws (n w : Nat) : (s.present n w).draws = s.draws := rfl
@[simp] theorem present_platform (n w : Nat) : (s.present n w).platform = s.platform := rfl

@[simp] theorem reset_block : State.reset.block = { isOpen := true, mode := 0#2, cfg := Config.cfg0 } := rfl
@[simp] theorem reset_responses : State.reset.responses = [] := rfl
@[simp] theorem reset_calls : State.reset.calls = [.configure Config.cfg0 0#2] := rfl
@[simp] theorem reset_ended : State.reset.ended = [] := rfl
@[simp] theorem reset_inbox : State.reset.inbox = [] := rfl

end Sys2Proof.Laws
end

