-- ==== Sys2Proof/Laws/Ops.lean ====
section
/-! SUPPORT. What each shared operation can do, said once. -/

namespace Sys2Proof.Laws

open Sys2Proof.Machine

/-- In state Closed a query answers ResourceClosed, whatever the transport would have said. -/
theorem query_closed (k : Word → State → State) {s : State} (h : s.block.isOpen = false) :
    query k s = .next (s.raise .resourceClosed) := by
  simp [query, h]

/-- In state Open a query delivers the transport's answer. -/
theorem query_open (k : Word → State → State) {s : State} {a : Answer} (h : s.block.isOpen = true)
    (ha : s.nextRead = .got a) : query k s = .next (deliver k a s.afterRead) := by
  simp [query, h, ha]

/-- Everything a query can do when it goes on. -/
theorem query_next_cases {k : Word → State → State} {s t : State} (h : query k s = .next t) :
    (s.block.isOpen = false ∧ t = s.raise .resourceClosed) ∨
    (s.block.isOpen = true ∧ ∃ b0 b1, s.nextRead = .got (.bytes b0 b1) ∧ t = k (word b0 b1) s.afterRead) ∨
    (s.block.isOpen = true ∧ ∃ e, s.nextRead = .got (.err e) ∧ t = s.afterRead.raise (.transportError e)) := by
  unfold query at h
  split at h
  next ho =>
    split at h
    next a ha =>
      cases h
      cases a with
      | bytes b0 b1 => exact .inr (.inl ⟨ho, b0, b1, ha, rfl⟩)
      | err e => exact .inr (.inr ⟨ho, e, ha, rfl⟩)
    · cases h
    · cases h
  next hc =>
    cases h
    exact .inl ⟨by simpa using hc, rfl⟩

/-- With no scripted reply left the answer is a free one, so there always is an answer (R129). -/
theorem nextRead_of_nil {s : State} (h : s.script = []) :
    s.nextRead = .got (clipAnswer s.platform.terrW (Config.freeAnswer s.draws)) := by
  simp only [State.nextRead, h]

/-- A scripted reply is the one the read meets. -/
theorem nextRead_of_cons {s : State} {r : Reply} {rest : List Reply} (h : s.script = r :: rest) :
    s.nextRead = readReply s.platform.terrW r := by
  simp only [State.nextRead, h]

/-- An answer the transport gives carries a payload of at most TERR_W bits. -/
theorem nextRead_fits {s : State} {a : Answer} (h : s.nextRead = .got a) : a.fits s.platform.terrW = true := by
  have hw : ∀ (w : Fin 17) (r : Reply), readReply w r = .got a → a.fits w = true := by
    intro w r hr
    unfold readReply at hr
    split at hr
    · cases hr; rfl
    · cases hr
    · split at hr
      next hf => cases hr; exact hf
      · cases hr
    · cases hr
  unfold State.nextRead at h
  split at h
  · cases h
    cases hc : Config.freeAnswer s.draws with
    | bytes b0 b1 => rfl
    | err e =>
      simp only [clipAnswer, Answer.fits, decide_eq_true_eq, BitVec.toNat_ofNat]
      exact lt_of_le_of_lt (Nat.mod_le _ _) (Nat.mod_lt _ (by positivity))
  · exact hw _ _ h

/-- Whether the transport is open after one call more. -/
theorem isOpenAfter_append (cs : List TransportCall) (c : TransportCall) :
    isOpenAfter (cs ++ [c]) = match c with
      | .configure _ _ => true
      | .read _ => isOpenAfter cs
      | .close => false := by
  cases c <;> simp [isOpenAfter]

/-- A platform on which the rules do not hold makes the step a refusal, whatever waits in the inbox. -/
theorem step_refused_of_platform {s : State} {r : Refusal} (h : s.platform.refusal = some r) :
    step s = .refused r := by
  simp only [step, fetch, h]

/-- Fetching a frame that decodes. -/
theorem fetch_run {s : State} {bs : List Byte} {rest : List HostEvent} {i : Instr}
    (hp : s.platform.refusal = none) (hb : s.inbox = .frame bs :: rest) (hd : decode bs = .ok i) :
    fetch s = .run i { s with inbox := rest } := by
  simp [fetch, hp, hb, hd]

@[simp] theorem requestWaits_nil {s : State} (h : s.inbox = []) : s.requestWaits = false := by
  simp [State.requestWaits, h]

/-- Whether a request waits, by the oldest event: a CONSTRUCT ends the run, any other event counts by itself. -/
theorem requestWaits_cons {s : State} {e : HostEvent} {rest : List HostEvent} (h : s.inbox = e :: rest) :
    s.requestWaits = (!e.beginsRun && (e.issuesRequest || State.requestWaits { s with inbox := rest })) := by
  cases hb : e.beginsRun <;> simp [State.requestWaits, h, hb]

/-- A frame issues a request exactly when it decodes to one of the four operations. -/
theorem issuesRequest_frame {bs : List Byte} {i : Instr} (h : decode bs = .ok i) :
    (HostEvent.frame bs).issuesRequest = i.isRequest := by
  simp [HostEvent.issuesRequest, h]

/-- An event never changes anything but the inbox by being taken. -/
theorem fetch_taken {s t : State} :
    ((∃ i, fetch s = .run i t) ∨ (∃ cfg, fetch s = .construct cfg t) ∨ fetch s = .sample t) →
      t = { s with inbox := s.inbox.tail } := by
  unfold fetch
  split
  · simp
  · split
    · simp
    · simp_all [eq_comm]
    · split <;> simp_all [eq_comm]
    · simp_all [eq_comm]
    · simp

end Sys2Proof.Laws
end

