-- ==== Sys2Proof/Laws/Exec.lean ====
section
/-! SUPPORT. Everything an instruction can do when it goes on, said once for all of them. -/

namespace Sys2Proof.Laws

open Sys2Proof.Machine

/-- The ways `exec` answers a next state: the closed test, a transport error, the outcomes of each operation, and the
parse of a status word. -/
inductive ExecCase (i : Instr) (s t : State) : Prop where
  | closed (hi : i.isRequest = true) (ho : s.block.isOpen = false) (ht : t = s.raise .resourceClosed)
  | transport (e : BitVec 16) (hi : i.isQuery = true) (ho : s.block.isOpen = true) (hr : s.nextRead = .got (.err e))
      (ht : t = s.afterRead.raise (.transportError e))
  | acq (b0 b1 : Byte) (hi : i = .acq) (ho : s.block.isOpen = true) (hr : s.nextRead = .got (.bytes b0 b1))
      (ht : t = s.afterRead.respond (.ok (.raw (word b0 b1))))
  | rdtFault (b0 b1 : Byte) (hi : i = .rdt) (ho : s.block.isOpen = true) (hr : s.nextRead = .got (.bytes b0 b1))
      (hf : fault (word b0 b1) = true) (ht : t = s.afterRead.raise .thermocoupleFault)
  | rdt (b0 b1 : Byte) (hi : i = .rdt) (ho : s.block.isOpen = true) (hr : s.nextRead = .got (.bytes b0 b1))
      (hf : fault (word b0 b1) = false) (ht : t = s.afterRead.respond (.ok (.temperature (tempq (word b0 b1)))))
  | con (b0 b1 : Byte) (hi : i = .con) (ho : s.block.isOpen = true) (hr : s.nextRead = .got (.bytes b0 b1))
      (ht : t = s.afterRead.respond (.ok (.connected (connected (word b0 b1)))))
  | cls (hi : i = .cls) (ho : s.block.isOpen = true)
      (ht : t = (s.transportClose.setOpen false).respond (.ok .released))
  | status (v : Word) (hi : i.isRequest = false) (ht : t = s.hostDecode v)

theorem exec_next_cases {i : Instr} {s t : State} (h : exec i s = .next t) : ExecCase i s t := by
  cases i with
  | acq =>
    obtain ⟨ho, ht⟩ | ⟨ho, b0, b1, hr, ht⟩ | ⟨ho, e, hr, ht⟩ := query_next_cases h
    · exact .closed rfl ho ht
    · exact .acq b0 b1 rfl ho hr ht
    · exact .transport e rfl ho hr ht
  | rdt =>
    obtain ⟨ho, ht⟩ | ⟨ho, b0, b1, hr, ht⟩ | ⟨ho, e, hr, ht⟩ := query_next_cases h
    · exact .closed rfl ho ht
    · cases hf : fault (word b0 b1) with
      | false => exact .rdt b0 b1 rfl ho hr hf (by simpa [hf] using ht)
      | true => exact .rdtFault b0 b1 rfl ho hr hf (by simpa [hf] using ht)
    · exact .transport e rfl ho hr ht
  | con =>
    obtain ⟨ho, ht⟩ | ⟨ho, b0, b1, hr, ht⟩ | ⟨ho, e, hr, ht⟩ := query_next_cases h
    · exact .closed rfl ho ht
    · exact .con b0 b1 rfl ho hr ht
    · exact .transport e rfl ho hr ht
  | cls =>
    simp only [exec, execCls] at h
    split at h
    next ho => cases h; exact .cls rfl ho rfl
    next ho => cases h; exact .closed rfl (by simpa using ho) rfl
  | swNofault r m d => cases h; exact .status _ rfl rfl
  | swFault r m d => cases h; exact .status _ rfl rfl

/-- A query neither reads nor writes the inbox. -/
theorem query_withInbox {k : Word → State → State} {s t : State} (es : List HostEvent)
    (hk : ∀ v u, k v { u with inbox := es } = { k v u with inbox := es }) (h : query k s = .next t) :
    query k { s with inbox := es } = .next { t with inbox := es } := by
  obtain ⟨ho, rfl⟩ | ⟨ho, b0, b1, hr, rfl⟩ | ⟨ho, e, hr, rfl⟩ := query_next_cases h
  · exact query_closed k (s := { s with inbox := es }) ho
  · rw [query_open k (s := { s with inbox := es }) ho hr, ← hk]; rfl
  · exact query_open k (s := { s with inbox := es }) ho hr

/-- No instruction reads or writes the inbox: what else waits makes no difference to it. -/
theorem exec_withInbox {i : Instr} {s t : State} (es : List HostEvent) (h : exec i s = .next t) :
    exec i { s with inbox := es } = .next { t with inbox := es } := by
  cases i with
  | acq => exact query_withInbox es (fun _ _ => rfl) h
  | rdt => exact query_withInbox es (fun v _ => by cases fault v <;> rfl) h
  | con => exact query_withInbox es (fun _ _ => rfl) h
  | cls =>
    simp only [exec, execCls] at h ⊢
    split at h <;> (cases h; simp [*]; rfl)
  | swNofault | swFault => cases h; rfl

/-- Everything the pseudo-operation DECODE can do when it goes on: the ACQ, and on its OK response the word's parse. -/
theorem decodeSample_next_cases {s t : State} (h : decodeSample s = .next t) :
    ∃ u, exec .acq s = .next u ∧ (t = u ∨ ∃ v, t = u.hostDecode v) := by
  unfold decodeSample at h
  split at h
  next u hu =>
    cases h
    refine ⟨u, hu, ?_⟩
    unfold State.decodeLatest
    split
    next v _ => exact .inr ⟨v, rfl⟩
    · exact .inl rfl
  · cases h
  · cases h

end Sys2Proof.Laws
end

