-- ==== Sys2Proof/Laws/Operands.lean ====
section
/-! SUPPORT. The decode datapath bit by bit: what each bit of an assembled word is, and that a word is its fields. -/

namespace Sys2Proof.Laws

open Sys2Proof.Machine

/-- The bits of an assembled word (R28). -/
theorem getLsbD_word (b0 b1 : Byte) (k : Nat) :
    (word b0 b1).getLsbD k = if k < 8 then b1.getLsbD k else b0.getLsbD (k - 8) := by
  simp only [word, BitVec.getLsbD_or, BitVec.getLsbD_shiftLeft, BitVec.getLsbD_setWidth]
  by_cases h : k < 8
  · simp [h, show k < 16 by omega]
  · by_cases h16 : k < 16
    · simp [h, h16, show k - 8 < 16 by omega, BitVec.getLsbD_of_ge b1 k (by omega)]
    · simp [h, h16, BitVec.getLsbD_of_ge b0 (k - 8) (by omega)]

/-- The bits of a word assembled from its fields (R45). -/
theorem getLsbD_statusWord (r : BitVec 1) (m : Mag) (f : Bool) (i : BitVec 2) (k : Nat) :
    (statusWord r m f i).getLsbD k =
      if k < 2 then i.getLsbD k else if k < 3 then f else if k < 15 then m.getLsbD (k - 3) else r.getLsbD (k - 15) := by
  simp only [statusWord, BitVec.getLsbD_cast, BitVec.getLsbD_append]
  by_cases h2 : k < 2
  · simp [h2]
  · by_cases h3 : k < 3
    · obtain rfl : k = 2 := by omega
      simp
    · by_cases h15 : k < 15
      · simp only [h2, h3, h15, show ¬ k - 2 < 1 by omega, show k - 3 < 12 by omega,
          show k - 2 - 1 = k - 3 by omega, if_true, if_false]
      · simp [h2, h3, h15, show ¬ k - 2 < 1 by omega, show ¬ k - 2 - 1 < 12 by omega,
          show k - 2 - 1 - 12 = k - 15 by omega]

theorem highByte_word (b0 b1 : Byte) : highByte (word b0 b1) = b0 := by
  ext k hk
  simp [highByte, getLsbD_word, BitVec.getLsbD_eq_getElem hk]

theorem lowByte_word (b0 b1 : Byte) : lowByte (word b0 b1) = b1 := by
  ext k hk
  simp [lowByte, getLsbD_word, hk]

theorem word_bytes (v : Word) : word (highByte v) (lowByte v) = v := by
  ext k hk
  rw [← BitVec.getLsbD_eq_getElem, ← BitVec.getLsbD_eq_getElem, getLsbD_word]
  by_cases h : k < 8
  · simp [lowByte, h]
  · simp [highByte, h, show k - 8 < 8 by omega, show 8 + (k - 8) = k by omega]

/-- The fault flag is in the second byte (R48). -/
theorem fault_word (b0 b1 : Byte) : fault (word b0 b1) = b1.getLsbD 2 := by
  simp only [fault, getLsbD_word]
  rfl

theorem fault_statusWord (r : BitVec 1) (m : Mag) (f : Bool) (i : BitVec 2) : fault (statusWord r m f i) = f := by
  simp only [fault, getLsbD_statusWord]
  rfl

theorem mag_statusWord (r : BitVec 1) (m : Mag) (f : Bool) (i : BitVec 2) : mag (statusWord r m f i) = m := by
  ext k hk
  simp [mag, getLsbD_statusWord, show ¬ 3 + k < 2 by omega, show 3 + k < 15 by omega, BitVec.getLsbD_eq_getElem hk]

theorem rsv15_statusWord (r : BitVec 1) (m : Mag) (f : Bool) (i : BitVec 2) : rsv15 (statusWord r m f i) = r := by
  ext k hk
  obtain rfl : k = 0 := by omega
  simp [rsv15, getLsbD_statusWord, ← BitVec.getLsbD_eq_getElem]

theorem ident_statusWord (r : BitVec 1) (m : Mag) (f : Bool) (i : BitVec 2) : ident (statusWord r m f i) = i := by
  ext k hk
  simp [ident, getLsbD_statusWord, hk]

theorem statusWord_fields (v : Word) : statusWord (rsv15 v) (mag v) (fault v) (ident v) = v := by
  ext k hk
  rw [← BitVec.getLsbD_eq_getElem, ← BitVec.getLsbD_eq_getElem, getLsbD_statusWord]
  by_cases h2 : k < 2
  · simp [ident, h2]
  · by_cases h3 : k < 3
    · obtain rfl : k = 2 := by omega
      rfl
    · by_cases h15 : k < 15
      · simp [mag, h2, h3, h15, show k - 3 < 12 by omega, show 3 + (k - 3) = k by omega]
      · obtain rfl : k = 15 := by omega
        simp [rsv15]

end Sys2Proof.Laws
end

