-- ==== Sys2Proof/Laws/PerInstr.lean ====
section
/-! SUPPORT. The per-instruction family `Framing`: the encoding of every instruction is a well-formed frame of its
format's one length (R48, R49, R56). -/

namespace Sys2Proof.Laws.Framing

/-- The encoding is a frame of the length of the instruction's format. -/
def Statement (i : Instr) : Prop :=
  frameWf (encode i) = true ∧ (encode i).length = if i.isRequest then 1 else 2

theorem acq : Statement .acq := ⟨rfl, rfl⟩

theorem rdt : Statement .rdt := ⟨rfl, rfl⟩

theorem con : Statement .con := ⟨rfl, rfl⟩

theorem cls : Statement .cls := ⟨rfl, rfl⟩

theorem swNofault (r : BitVec 1) (m : Mag) (d : BitVec 2) : Statement (.swNofault r m d) := ⟨rfl, rfl⟩

theorem swFault (r : BitVec 1) (m : Mag) (d : BitVec 2) : Statement (.swFault r m d) := ⟨rfl, rfl⟩

end Sys2Proof.Laws.Framing
end

