-- ==== Sys2Proof/Tests/Slice0.lean ====
section
/-! SUPPORT. The model's own tests: the checks refuse, words written out from the spec decode right, one step per
instruction against `spec/95_test_vectors.md`, and a witness for the hypotheses of every statement. -/

namespace Sys2Proof.Tests

open Sys2Proof.Machine Sys2Proof.Safety

/-! ### The checks of WellFormed refuse -/

theorem test_frame_empty_refused : frameWf [] = false := by decide
theorem test_frame_code_above_two_bits_refused : frameWf [0x04#8] = false := by decide
theorem test_frame_three_bytes_refused : frameWf [0#8, 0#8, 0#8] = false := by decide
theorem test_payload_above_TERR_W_refused : Answer.fits 8 (.err 0x100#16) = false := by decide
theorem test_payload_of_TERR_W_fits : Answer.fits 8 (.err 0xFF#16) = true := by decide

/-! ### Parameters of R5 -/

theorem test_fault_mask_is_fault_bit : Config.faultMask = 1#16 <<< Config.faultBit := by decide
theorem test_mag_mask_is_mag_max : Config.magMask.toNat = Config.magMax := by decide
theorem test_one_lsb_is_two_fraction_bits : (word 0x00#8 0x20#8 >>> Config.statusBits).toNat = 2 ^ Config.fracBits := by
  decide

/-- Mode 0: the clock idles low, data is sampled on the rising edge (R12). -/
theorem test_mode_zero : State.reset.block.polarity = false ∧ State.reset.block.phase = false := by decide
theorem test_mnemonics : [Instr.acq, .rdt, .con, .cls].all (fun i => Instr.ofMnemonic i.mnemonic == some i) = true := by
  decide

/-! ### Words written out from the encodings of R45 and R49 -/

theorem test_decode_acq : decode [0b00#8] = .ok .acq := by rfl
theorem test_decode_rdt : decode [0b01#8] = .ok .rdt := by rfl
theorem test_decode_con : decode [0b10#8] = .ok .con := by rfl
theorem test_decode_cls : decode [0b11#8] = .ok .cls := by rfl
/-- RSV15 = 1, MAG = 0b000000000001, FAULT = 0, ID = 0b10 -/
theorem test_decode_swNofault : decode [0b10000000#8, 0b00001010#8] = .ok (.swNofault 1#1 1#12 2#2) := by rfl
/-- RSV15 = 0, MAG = 0b100000000001, FAULT = 1, ID = 0b01 -/
theorem test_decode_swFault : decode [0b01000000#8, 0b00001101#8] = .ok (.swFault 0#1 2049#12 1#2) := by rfl

/-- The rows of the opcode table by their match values, as its bits are numbered. -/
theorem test_table_words : [(8, 0), (8, 1), (8, 2), (8, 3), (16, 0), (16, 4)].map (fun p => decodeTableWord p.1 p.2) =
    [some .acq, some .rdt, some .con, some .cls, some (.swNofault 0 0 0), some (.swFault 0 0 0)] := by decide

/-! ### One step of each instruction (`spec/95_test_vectors.md`) -/

/-- An Open instance whose transport answers with these replies. -/
def openWith (script : List Reply) : State := { State.reset with script := script }

/-- The same instance after its CLS. -/
def closedWith (script : List Reply) : State :=
  { openWith script with
    block := { isOpen := false, mode := 0#2, cfg := Config.cfg0 }
    responses := [.ok .released]
    calls := [.configure Config.cfg0 0#2, .close] }

/-- The newest response of an outcome, as (status, data). -/
def newest : Host.Outcome State Fault Refusal → Option (BitVec 2 × BitVec 16)
  | .next t => t.responses.getLast?.map (fun r => (r.status, r.data))
  | .fault _ => none
  | .refused _ => none

/-- The newest DECODE of an outcome. -/
def newestDecoded : Host.Outcome State Fault Refusal → Option Decoded
  | .next t => t.decoded.getLast?
  | .fault _ => none
  | .refused _ => none

/-- Q1 -/
theorem test_acq_returns_fault_word : newest (exec .acq (openWith [.data [0x0C, 0x84]])) = some (0b00, 0x0C84) := by
  decide
/-- Q3 -/
theorem test_acq_closed : newest (exec .acq (closedWith [])) = some (0b01, 0x0000) := by decide
/-- V30 -/
theorem test_rdt_masks_bit_fifteen : newest (exec .rdt (openWith [.data [0xFF, 0xFB]])) = some (0b00, 0x0FFF) := by
  decide
/-- Q12 -/
theorem test_rdt_fault : newest (exec .rdt (openWith [.data [0xFF, 0xFF]])) = some (0b10, 0x0000) := by decide
/-- Q9 -/
theorem test_con_not_connected : newest (exec .con (openWith [.data [0x0C, 0x84]])) = some (0b00, 0x0000) := by decide
/-- Q10 -/
theorem test_con_transport_error : newest (exec .con (openWith [.error 0xFF])) = some (0b11, 0x00FF) := by decide
/-- L2 -/
theorem test_cls_open : newest (exec .cls (openWith [])) = some (0b00, 0x0000) := by decide
/-- L3 -/
theorem test_cls_closed : newest (exec .cls (closedWith [])) = some (0b01, 0x0000) := by decide
/-- P3, step 3: 0x8008 -/
theorem test_swNofault : newestDecoded (exec (decodeWord 0x8008#16) (openWith [])) =
    some { fault := false, connected := true, tempq := 0x001 } := by decide
/-- P3, step 2: 0x1234 -/
theorem test_swFault : newestDecoded (exec (decodeWord 0x1234#16) (openWith [])) =
    some { fault := true, connected := false, tempq := 0x246 } := by decide

/-- The host's view: each row runs as the first instruction after reset. -/
theorem test_rows_run_after_reset : ∀ p ∈ [(8, 0), (8, 1), (8, 2), (8, 3), (16, 0), (16, 4)],
    ∃ t, step (State.reset.withFetchWord p.1 p.2) = .next t := by
  simp only [List.mem_cons, List.not_mem_nil, or_false, forall_eq_or_imp, forall_eq]
  exact ⟨⟨_, rfl⟩, ⟨_, rfl⟩, ⟨_, rfl⟩, ⟨_, rfl⟩, ⟨_, rfl⟩, ⟨_, rfl⟩⟩

/-! ### Witnesses: the hypotheses of every statement can be met, clause by clause -/

theorem witness_FaultIsBitTwoAlone : (0x0004#16).getLsbD 2 = (0xFFFF#16).getLsbD 2 := by decide
theorem witness_MagMasksBitFifteen : 11 < 12 ∧ (0x7FFF#16).getLsbD 15 = false ∧ (0x8000#16).getLsbD 15 = true := by decide
theorem witness_NoWordOrCodeIsIllegal : Instr.isRequest .acq = true ∧ Instr.isRequest .cls = true := by decide
theorem witness_EncodeInvertsDecode : decode [0x03#8] = .ok .cls ∧ ∃ i, decode [0xFF#8, 0xFF#8] = .ok i := ⟨rfl, _, rfl⟩
theorem witness_OtherFramesAreRejectedByName : 4 ≤ (0x04#8).toNat ∧ 2 < [0#8, 0#8, 0#8].length := by decide
theorem witness_StatusCodesTellOutcomesApart : (Response.error (.transportError 5)).status = 0b11 := by decide

/-- The clauses of the query rules: Closed; Open with an error of the largest payload; Open with bytes, bit 2 set and
clear. Used for AcqFollowsItsRule, RdtFollowsItsRule, ConFollowsItsRule, JointDecodeAgreesWithQueries and
ConAndRdtAgreeOnTheFault. -/
theorem witness_QueryRules :
    (closedWith []).block.isOpen = false ∧
    ((openWith [.error 0xFF]).block.isOpen = true ∧ (openWith [.error 0xFF]).nextRead = .got (.err 0xFF)) ∧
    ((openWith [.data [0xFF, 0x04]]).block.isOpen = true ∧
      (openWith [.data [0xFF, 0x04]]).nextRead = .got (.bytes 0xFF 0x04) ∧ (word 0xFF 0x04).getLsbD 2 = true) ∧
    ((openWith [.data [0xFF, 0xFB]]).block.isOpen = true ∧
      (openWith [.data [0xFF, 0xFB]]).nextRead = .got (.bytes 0xFF 0xFB) ∧ (word 0xFF 0xFB).getLsbD 2 = false) := by
  decide

theorem witness_RdtReturnsQuarterDegrees : (openWith [.data [0x7F, 0xFB]]).block.isOpen = true ∧
    (openWith [.data [0x7F, 0xFB]]).nextRead = .got (.bytes 0x7F 0xFB) ∧ (0xFB#8).getLsbD 2 = false ∧
    (0x7F#8).toNat < 128 := by decide

/-- Three queries waiting, an Open instance, two scripted replies and a free one. -/
def threeQueries : State :=
  { openWith [.data [0, 8], .error 5] with inbox := [.frame [0], .frame [1], .frame [2]] }

theorem witness_QueriesReadExactlyOnceEach :
    (∃ t, exec .acq (openWith []) = .next t) ∧ (∃ t, construct Config.cfg0 (closedWith []) = .next t) ∧
    (∀ i ∈ [Instr.acq, .rdt, .con], i.isQuery = true) ∧ threeQueries.platform.refusal = none ∧
    threeQueries.block.isOpen = true ∧ threeQueries.script.all (replyKeeps threeQueries.platform.terrW) = true ∧
    threeQueries.inbox = [Instr.acq, .rdt, .con].map (fun i => HostEvent.frame (encode i)) :=
  ⟨⟨_, rfl⟩, ⟨_, rfl⟩, by decide, by decide, by decide, by decide, by decide⟩

theorem witness_QueriesStopOnlyOnBrokenTransport : Instr.isQuery .con = true ∧ (openWith []).block.isOpen = true ∧
    (openWith [.never]).script = [.never] ∧ (openWith [.data [1]]).script = [.data [1]] ∧ [1#8].length ≠ 2 ∧
    (openWith [.error 0x100]).script = [.error 0x100] ∧ 2 ^ (openWith []).platform.terrW.val ≤ (0x100#16).toNat ∧
    (openWith []).script = [] := by decide

theorem witness_ClsFollowsItsRule : (closedWith []).block.isOpen = false ∧ (openWith []).block.isOpen = true := by decide

/-- The clauses with a CONSTRUCT waiting: a Closed instance and an Open one, on a conforming platform, with a
configuration that names a mode of its own. Used for ConstructFollowsItsRule, ConstructLeavesResetValues and
OnlyConstructLeavesClosed. -/
theorem witness_ConstructFollowsItsRule :
    let c : Cfg := { Config.cfg0 with mode := some 3 }
    let s : State := { closedWith [] with inbox := [.construct c] }
    let o : State := { openWith [] with inbox := [.construct c] }
    s.platform.refusal = none ∧ s.inbox = [.construct c] ∧ s.block.isOpen = false ∧ o.platform.refusal = none ∧
      o.inbox = [.construct c] ∧ o.block.isOpen = true := by decide

theorem witness_OnlyConstructLeavesClosed : ∃ s t : State, s.block.isOpen = false ∧ step s = .next t ∧
    t.block.isOpen = true := ⟨{ closedWith [] with inbox := [.construct Config.cfg0] }, _, rfl, rfl, rfl⟩

/-- An instruction that goes on, for OnlyClsWritesTheBlock and TransportCallsOfEachOperation. -/
theorem witness_OnlyClsWritesTheBlock : ∃ t, exec .cls (openWith []) = .next t ∧ t.block.isOpen = false := ⟨_, rfl, rfl⟩

theorem witness_ClosedInstanceAnswersResourceClosed : Instr.isRequest .con = true ∧ (closedWith []).block.isOpen = false ∧
    ∃ t, exec .con (closedWith []) = .next t ∧ t.responses = (closedWith []).responses ++ [.error .resourceClosed] :=
  ⟨rfl, rfl, _, rfl, rfl⟩

theorem witness_ThermocoupleFaultOnlyFromRdt : ∃ t, exec .rdt (openWith [.data [0, 4]]) = .next t ∧
    t.responses = (openWith [.data [0, 4]]).responses ++ [.error .thermocoupleFault] := ⟨_, rfl, by decide⟩

theorem witness_TransportErrorIsPropagatedUnchanged : ∃ t, exec .acq (openWith [.error 5]) = .next t ∧
    t.responses = (openWith [.error 5]).responses ++ [.error (.transportError 5)] := ⟨_, rfl, by decide⟩

theorem witness_FirstErrorMetIsReported : Instr.isRequest .rdt = true ∧ Instr.isQuery .rdt = true ∧
    (∃ t, exec .rdt (closedWith [.error 5]) = .next t) ∧
    ∃ t, exec .rdt (openWith [.error 5]) = .next t ∧ (openWith [.error 5]).nextRead = .got (.err 5) :=
  ⟨rfl, rfl, ⟨_, rfl⟩, _, rfl, by decide⟩

theorem witness_ErrorsChangeNothingElse :
    (∃ t, exec .cls (closedWith []) = .next t ∧ t.responses = (closedWith []).responses ++ [.error .resourceClosed]) ∧
    ∃ t, exec .rdt (openWith [.data [0, 4]]) = .next t ∧
      t.responses = (openWith [.data [0, 4]]).responses ++ [.error .thermocoupleFault] :=
  ⟨⟨_, rfl, rfl⟩, _, rfl, by decide⟩

theorem witness_PseudoDecodeIsOneAcqThenDecode :
    let s : State := { openWith [.data [0xFF, 0xFB]] with inbox := [.decodeSample] }
    let e : State := { openWith [.error 5] with inbox := [.decodeSample] }
    let c : State := { closedWith [] with inbox := [.decodeSample] }
    s.platform.refusal = none ∧ s.inbox = [.decodeSample] ∧ s.block.isOpen = true ∧
      s.nextRead = .got (.bytes 0xFF 0xFB) ∧ e.nextRead = .got (.err 5) ∧ c.block.isOpen = false := by decide

theorem witness_ReservedBitsMakeNoDifference : (openWith []).block.isOpen = true ∧
    word 0x80 0x0B &&& 0x7FFC#16 = word 0x00 0x08 &&& 0x7FFC#16 ∧ word 0x80 0x0B ≠ word 0x00 0x08 := by decide

theorem witness_NoOperationReadsCfgOrMode : ∃ t, exec .rdt (openWith [.data [0x0C, 0x80]]) = .next t := ⟨_, rfl⟩

theorem witness_HistoryMakesNoDifference :
    let s := openWith [.data [0x0C, 0x80]]
    let s' : State := { s with responses := [.error .thermocoupleFault], decoded := [decodeJoint 4], draws := 7 }
    s.block.isOpen = s'.block.isOpen ∧ s.nextRead = s'.nextRead ∧
      ∃ t, exec .rdt s = .next t ∧ t.responses = s.responses ++ [.ok (.temperature 0x190)] :=
  ⟨rfl, rfl, _, rfl, by decide⟩

theorem witness_GroundedPinMakesConTruthful : (openWith [.data [0, 4]]).block.isOpen = true ∧
    (openWith [.data [0, 4]]).nextRead = .got (.bytes 0 4) ∧ flagTruthful false (word 0 4) ∧
    flagTruthful true (word 0 0) := ⟨rfl, rfl, rfl, rfl⟩

theorem witness_StepRunsTheDecodedFrame :
    ({ openWith [] with inbox := [.frame [0x03]] } : State).platform.refusal = none ∧
    decode [0x03#8] = .ok .cls := ⟨rfl, rfl⟩

theorem witness_NothingIsEmittedUnasked :
    ((openWith []).platform.refusal = none ∧ (openWith []).inbox = []) ∧
    ∃ t, step { openWith [] with inbox := [.frame [0x03]] } = .next t ∧ t.responses ≠ (openWith []).responses :=
  ⟨⟨rfl, rfl⟩, _, rfl, by decide⟩

/-- An Open instance on a platform that breaks only what `f` breaks. -/
def onPlatform (f : Platform → Platform) : State := { openWith [] with platform := f Platform.conforming }

/-- Each fact broken alone, with every fact before it in the order kept, and the platform that breaks none. -/
theorem witness_StepRefusesWhatTheSpecRefuses :
    ((openWith []).platform.refusal = none ∧ decode [0x04#8] = .error (.notARequest 0x04)) ∧
    (onPlatform (fun p => { p with notReady := true })).platform.notReady = true ∧
    (let p := (onPlatform (fun p => { p with configureCanFail := true })).platform;
      p.notReady = false ∧ p.configureCanFail = true) ∧
    (let p := (onPlatform (fun p => { p with closeCanFail := true })).platform;
      p.notReady = false ∧ p.configureCanFail = false ∧ p.closeCanFail = true) ∧
    (let p := (onPlatform (fun p => { p with modeOverridden := true })).platform;
      p.notReady = false ∧ p.configureCanFail = false ∧ p.closeCanFail = false ∧ p.modeOverridden = true) ∧
    (let p := (onPlatform (fun p => { p with deviceShared := true })).platform;
      p.notReady = false ∧ p.configureCanFail = false ∧ p.closeCanFail = false ∧ p.modeOverridden = false ∧
      p.deviceShared = true) ∧
    (let p := (onPlatform (fun p => { p with busShared := true })).platform;
      p.notReady = false ∧ p.configureCanFail = false ∧ p.closeCanFail = false ∧ p.modeOverridden = false ∧
      p.deviceShared = false ∧ p.busShared = true) ∧
    (let p := (onPlatform (fun p => { p with hostsUnserialised := true })).platform;
      p.notReady = false ∧ p.configureCanFail = false ∧ p.closeCanFail = false ∧ p.modeOverridden = false ∧
      p.deviceShared = false ∧ p.busShared = false ∧ p.hostsUnserialised = true) ∧
    (let p := (openWith []).platform;
      p.notReady = false ∧ p.configureCanFail = false ∧ p.closeCanFail = false ∧ p.modeOverridden = false ∧
      p.deviceShared = false ∧ p.busShared = false ∧ p.hostsUnserialised = false) := by decide

theorem witness_StepKeepsTheInvariant : Inv State.reset ∧ ∃ t, step (State.reset.withFetchWord 8 3) = .next t :=
  ⟨{ mode_zero := rfl
     configured_first := ⟨[], rfl, by simp⟩
     open_mirrors := rfl
     closed_once := by decide
     close_is_last := by decide
     released_with_close := by decide
     reads_two := by simp
     read_answered_once := by decide
     payload_fits := by simp
     decoded_consistent := by simp [State.reset, State.afterConstruct]
     ended_released := by simp }, _, rfl⟩

theorem witness_KeptContractsRunToTheEnd : keepsContract threeQueries = true ∧ threeQueries.inbox.length ≤ 3 := by decide

/-- A run of RDT and CLS, a status word behind it, the next CONSTRUCT and a request of the next run. -/
def twoRuns : State :=
  { openWith [.data [0x0C, 0x80]] with
    inbox := [.frame [0x01], .frame [0x03], .frame [0x0C, 0x80], .construct Config.cfg0, .frame [0x00]] }

theorem witness_FinalClsMeetsTheOwnersDuty :
    keepsContract { twoRuns with inbox := [.frame [0x01]] } = true ∧
    twoRuns.inbox = [.frame [0x01]] ++ .frame (encode .cls) ::
      [.frame [0x0C, 0x80], .construct Config.cfg0, .frame [0x00]] ∧
    State.requestWaits { twoRuns with inbox := [.frame [0x0C, 0x80], .construct Config.cfg0, .frame [0x00]] } = false := by
  decide

/-- The steps after the end: first the status word, then the CONSTRUCT, each from an ended run. -/
theorem witness_RunEndsWithItsLastRequest :
    let s : State := { closedWith [] with inbox := [.frame [0x0C, 0x80], .construct Config.cfg0, .frame [0x00]] }
    let u : State := { closedWith [] with inbox := [.construct Config.cfg0, .frame [0x00]] }
    (runEnded s = true ∧ ∃ t, step s = .next t) ∧ (ownerDutyMet u = true ∧ ∃ t, step u = .next t) ∧
      runEnded twoRuns = false := ⟨⟨by decide, _, rfl⟩, ⟨by decide, _, rfl⟩, by decide⟩

/-- R130: a waiting CONSTRUCT or status word leaves the run ended, a request does not, nor one behind a status word. -/
theorem test_run_end : [[], [.construct Config.cfg0], [.frame [0x0C, 0x80]], [.frame [0x0C, 0x80], .frame [0x03]],
    [.decodeSample], [.construct Config.cfg0, .frame [0x00]]].map (fun es => runEnded { openWith [] with inbox := es }) =
    [true, true, true, false, false, true] := by decide

end Sys2Proof.Tests
end

section
/-! The step by the event it takes: one equation for each thing that can wait in the inbox, and everything a step can do
when it goes on. -/

namespace Sys2Proof.Proofs

open Sys2Proof.Machine Sys2Proof.Laws

/-- A broken fact of the platform is the step's refusal, under that fact's own name. -/
theorem refusal_and_step_refused {s : State} {r : Refusal} (h : s.platform.refusal = some r) :
    s.platform.refusal = some r ∧ step s = .refused r :=
  ⟨h, step_refused_of_platform h⟩

/-- A step that goes on was made on a platform where the rules hold. -/
theorem platform_refusal_of_step {s t : State} (h : step s = .next t) : s.platform.refusal = none := by
  cases hp : s.platform.refusal with
  | none => rfl
  | some r => rw [step_refused_of_platform hp] at h; cases h

section TakenEvent

variable {s : State} {rest : List HostEvent} (hp : s.platform.refusal = none)
include hp

theorem step_nil (hb : s.inbox = []) : step s = .next s := by
  simp [step, fetch, hp, hb]

theorem step_construct {cfg : Cfg} (hb : s.inbox = .construct cfg :: rest) :
    step s = construct cfg { s with inbox := rest } := by
  simp [step, fetch, hp, hb]

theorem step_frame {bs : List Byte} {i : Instr} (hb : s.inbox = .frame bs :: rest) (hd : decode bs = .ok i) :
    step s = exec i { s with inbox := rest } := by
  simp [step, fetch_run hp hb hd]

theorem step_undecodable {bs : List Byte} {e : DecodeError} (hb : s.inbox = .frame bs :: rest)
    (hd : decode bs = .error e) : step s = .refused (.undecodable e) := by
  simp [step, fetch, hp, hb, hd]

theorem step_decodeSample (hb : s.inbox = .decodeSample :: rest) :
    step s = decodeSample { s with inbox := rest } := by
  simp [step, fetch, hp, hb]

theorem step_overlap {a b : ReqOp} (hb : s.inbox = .overlap a b :: rest) :
    step s = .refused .overlappingRequests := by
  simp [step, fetch, hp, hb]

end TakenEvent

/-- CONSTRUCT in state Open is refused (R23). -/
theorem construct_open {s : State} (cfg : Cfg) (ho : s.block.isOpen = true) :
    construct cfg s = .refused .constructWhileOpen := by
  simp [construct, ho]

/-- CONSTRUCT in state Closed goes through its steps (R91). -/
theorem construct_closed {s : State} (cfg : Cfg) (ho : s.block.isOpen = false) :
    construct cfg s = .next ((s.newInstance cfg).transportConfigure.setOpen true) := by
  simp [construct, ho]

/-- Everything a CONSTRUCT can do when it goes on. -/
theorem construct_next {cfg : Cfg} {s t : State} (h : construct cfg s = .next t) :
    s.block.isOpen = false ∧ t = (s.newInstance cfg).transportConfigure.setOpen true := by
  cases ho : s.block.isOpen with
  | false => rw [construct_closed cfg ho] at h; cases h; exact ⟨rfl, rfl⟩
  | true => rw [construct_open cfg ho] at h; cases h

/-- CLS in state Closed (R90). -/
theorem exec_cls_closed {s : State} (ho : s.block.isOpen = false) :
    exec .cls s = .next (s.raise .resourceClosed) := by
  simp [exec, execCls, ho]

/-- CLS in state Open (R90). -/
theorem exec_cls_open {s : State} (ho : s.block.isOpen = true) :
    exec .cls s = .next ((s.transportClose.setOpen false).respond (.ok .released)) := by
  simp [exec, execCls, ho]

/-- The ways a step answers a next state, by the event it takes. -/
inductive StepCase (s t : State) : Prop where
  | idle (hb : s.inbox = []) (ht : t = s)
  | construct (cfg : Cfg) (rest : List HostEvent) (hb : s.inbox = .construct cfg :: rest)
      (ht : construct cfg { s with inbox := rest } = .next t)
  | run (bs : List Byte) (i : Instr) (rest : List HostEvent) (hb : s.inbox = .frame bs :: rest)
      (hd : decode bs = .ok i) (ht : exec i { s with inbox := rest } = .next t)
  | sample (rest : List HostEvent) (hb : s.inbox = .decodeSample :: rest)
      (ht : decodeSample { s with inbox := rest } = .next t)

theorem step_next_cases {s t : State} (h : step s = .next t) : StepCase s t := by
  have hp := platform_refusal_of_step h
  cases hb : s.inbox with
  | nil => rw [step_nil hp hb] at h; cases h; exact .idle hb rfl
  | cons e rest =>
    cases e with
    | construct cfg => exact .construct cfg rest hb (step_construct hp hb ▸ h)
    | frame bs =>
      cases hd : decode bs with
      | ok i => exact .run bs i rest hb hd (step_frame hp hb hd ▸ h)
      | error e => rw [step_undecodable hp hb hd] at h; cases h
    | decodeSample => exact .sample rest hb (step_decodeSample hp hb ▸ h)
    | overlap a b => rw [step_overlap hp hb] at h; cases h

end Sys2Proof.Proofs
end

section
/-! What operations write of the block, and what they read of the state. -/

namespace Sys2Proof.Proofs

open Sys2Proof.Machine Sys2Proof.Laws

/-- The block after an instruction: CLS clears OPEN, nothing else is written (R92, R95). -/
theorem exec_block {i : Instr} {s t : State} (h : exec i s = .next t) :
    t.block = if i = .cls then { s.block with isOpen := false } else s.block := by
  cases exec_next_cases h with
  | closed hi ho ht => subst ht; simp [← ho]
  | transport e hi ho hr ht =>
    have hne : i ≠ .cls := by rintro rfl; cases hi
    simp [ht, hne]
  | acq b0 b1 hi ho hr ht => simp [ht, hi]
  | rdtFault b0 b1 hi ho hr hf ht => simp [ht, hi]
  | rdt b0 b1 hi ho hr hf ht => simp [ht, hi]
  | con b0 b1 hi ho hr ht => simp [ht, hi]
  | cls hi ho ht => simp [ht, hi]
  | status v hi ht =>
    have hne : i ≠ .cls := by rintro rfl; cases hi
    simp [ht, hne]

/-- No instruction leads out of state Closed. -/
theorem exec_stays_closed {i : Instr} {s t : State} (ho : s.block.isOpen = false) (h : exec i s = .next t) :
    t.block.isOpen = false := by
  rw [exec_block h]
  split
  · rfl
  · exact ho

/-- Nor does the pseudo-operation DECODE. -/
theorem decodeSample_stays_closed {s t : State} (ho : s.block.isOpen = false) (h : decodeSample s = .next t) :
    t.block.isOpen = false := by
  obtain ⟨u, hu, rfl | ⟨v, rfl⟩⟩ := decodeSample_next_cases h
  · exact exec_stays_closed ho hu
  · rw [hostDecode_block]
    exact exec_stays_closed ho hu

/-- The state with CFG and MODE replaced. -/
def withConfig (cfg : Cfg) (mode : BitVec 2) (s : State) : State :=
  { s with block := { s.block with cfg := cfg, mode := mode } }

/-- A query neither reads nor writes CFG and MODE if its decode does not. -/
theorem query_withConfig {k : Word → State → State} {s t : State} (cfg : Cfg) (mode : BitVec 2)
    (hk : ∀ v u, k v (withConfig cfg mode u) = withConfig cfg mode (k v u)) (h : query k s = .next t) :
    query k (withConfig cfg mode s) = .next (withConfig cfg mode t) := by
  obtain ⟨ho, rfl⟩ | ⟨ho, b0, b1, hr, rfl⟩ | ⟨ho, e, hr, rfl⟩ := query_next_cases h
  · exact query_closed k (s := withConfig cfg mode s) ho
  · rw [query_open k (s := withConfig cfg mode s) ho hr, ← hk]; rfl
  · exact query_open k (s := withConfig cfg mode s) ho hr

/-- No instruction reads or writes CFG and MODE (R13, R72). -/
theorem exec_withConfig {i : Instr} {s t : State} (cfg : Cfg) (mode : BitVec 2) (h : exec i s = .next t) :
    exec i (withConfig cfg mode s) = .next (withConfig cfg mode t) := by
  cases i with
  | acq => exact query_withConfig cfg mode (fun _ _ => rfl) h
  | rdt => exact query_withConfig cfg mode (fun v _ => by cases fault v <;> rfl) h
  | con => exact query_withConfig cfg mode (fun _ _ => rfl) h
  | cls =>
    cases ho : s.block.isOpen with
    | false =>
      cases (exec_cls_closed ho).symm.trans h
      exact exec_cls_closed (s := withConfig cfg mode s) ho
    | true =>
      cases (exec_cls_open ho).symm.trans h
      exact exec_cls_open (s := withConfig cfg mode s) ho
  | swNofault | swFault => cases h; rfl

/-- A query whose decode answers from the word alone gives one and the same response in two states of equal OPEN and
equal transport answer. -/
theorem query_answers_alike {k : Word → State → State} {s s' t : State}
    (hk : ∀ v, ∃ r, ∀ u : State, (k v u).responses = u.responses ++ [r])
    (hopen : s.block.isOpen = s'.block.isOpen) (hread : s.nextRead = s'.nextRead) (h : query k s = .next t) :
    ∃ t' r, query k s' = .next t' ∧ t.responses = s.responses ++ [r] ∧ t'.responses = s'.responses ++ [r] := by
  obtain ⟨ho, rfl⟩ | ⟨ho, b0, b1, hr, rfl⟩ | ⟨ho, e, hr, rfl⟩ := query_next_cases h
  · exact ⟨_, _, query_closed k (hopen ▸ ho), rfl, rfl⟩
  · obtain ⟨r, hkr⟩ := hk (word b0 b1)
    exact ⟨k (word b0 b1) s'.afterRead, r, query_open k (hopen ▸ ho) (hread ▸ hr), hkr _, hkr _⟩
  · exact ⟨_, _, query_open k (hopen ▸ ho) (hread ▸ hr), rfl, rfl⟩

/-- An instruction adds the same responses in two states of equal OPEN and equal transport answer (R16, R17). -/
theorem exec_answers_alike {i : Instr} {s s' t : State} (hopen : s.block.isOpen = s'.block.isOpen)
    (hread : s.nextRead = s'.nextRead) (h : exec i s = .next t) :
    ∃ t' rs, exec i s' = .next t' ∧ t.responses = s.responses ++ rs ∧ t'.responses = s'.responses ++ rs := by
  cases i with
  | acq =>
    obtain ⟨t', r, hr⟩ := query_answers_alike (fun v => ⟨_, fun _ => rfl⟩) hopen hread h
    exact ⟨t', [r], hr⟩
  | rdt =>
    have hk (v : Word) : ∃ r, ∀ u : State, (if fault v then u.raise .thermocoupleFault
        else u.respond (.ok (.temperature (tempq v)))).responses = u.responses ++ [r] := by
      cases fault v with
      | false => exact ⟨_, fun _ => rfl⟩
      | true => exact ⟨_, fun _ => rfl⟩
    obtain ⟨t', r, hr⟩ := query_answers_alike hk hopen hread h
    exact ⟨t', [r], hr⟩
  | con =>
    obtain ⟨t', r, hr⟩ := query_answers_alike (fun v => ⟨_, fun _ => rfl⟩) hopen hread h
    exact ⟨t', [r], hr⟩
  | cls =>
    cases ho : s.block.isOpen with
    | false =>
      cases (exec_cls_closed ho).symm.trans h
      exact ⟨_, _, exec_cls_closed (hopen ▸ ho), rfl, rfl⟩
    | true =>
      cases (exec_cls_open ho).symm.trans h
      exact ⟨_, _, exec_cls_open (hopen ▸ ho), rfl, rfl⟩
  | swNofault | swFault => cases h; exact ⟨_, [], rfl, by simp, by simp⟩

end Sys2Proof.Proofs
end

section
/-! The invariant of the whole machine: one rule for each change an operation makes, then each operation, then the
step. -/

namespace Sys2Proof.Proofs

open Sys2Proof.Machine Sys2Proof.Laws Sys2Proof.Safety

/-- What is true of a run that another one followed, in the invariant. -/
theorem endState_released {s : State} (hi : Inv s) (ho : s.block.isOpen = false) :
    dutyMet s.endState = true ∧ s.endState.calls.getLast? = some .close :=
  ⟨by simp [dutyMet, ho], hi.close_is_last ho⟩

/-- A run just begun meets the invariant when the runs before it were released. -/
theorem inv_of_fresh_run {t : State} {cfg : Cfg} (hblock : t.block = { isOpen := true, mode := 0#2, cfg := cfg })
    (hresp : t.responses = []) (hcalls : t.calls = [.configure cfg 0#2]) (hdec : t.decoded = [])
    (hended : ∀ e ∈ t.ended, dutyMet e = true ∧ e.calls.getLast? = some .close) : Inv t where
  mode_zero := by rw [hblock]
  configured_first := ⟨[], by rw [hcalls, hblock], by simp⟩
  open_mirrors := by rw [hcalls, hblock]; rfl
  closed_once := by rw [hcalls, hblock]; rfl
  close_is_last := by simp [hblock]
  released_with_close := by rw [hresp, hcalls]; rfl
  reads_two := by simp [hcalls]
  read_answered_once := by rw [hresp, hcalls]; rfl
  payload_fits := by simp [hresp]
  decoded_consistent := by simp [hdec]
  ended_released := hended

/-- The invariant does not speak of the inbox. -/
theorem inv_withInbox {s : State} (hi : Inv s) (es : List HostEvent) : Inv { s with inbox := es } :=
  { hi with }

/-- The closed test's answer keeps the invariant: ResourceClosed goes with no call. -/
theorem inv_raise_resourceClosed {s : State} (hi : Inv s) : Inv (s.raise .resourceClosed) :=
  { hi with
    released_with_close := by simp [hi.released_with_close]
    read_answered_once := by simp [hi.read_answered_once, fromRead]
    payload_fits := by simpa using hi.payload_fits }

/-- One read in state Open together with one response that reports on it keeps the invariant. -/
theorem inv_afterRead_respond {s : State} {r : Response} (hi : Inv s) (ho : s.block.isOpen = true)
    (hr : fromRead r = true) (hfit : ∀ e, r = .error (.transportError e) → e.toNat < 2 ^ s.platform.terrW.val) :
    Inv (s.afterRead.respond r) :=
  have hne : r ≠ .ok .released := by rintro rfl; cases hr
  { hi with
    configured_first := by
      obtain ⟨cs, hcs, hnone⟩ := hi.configured_first
      refine ⟨cs ++ [.read 2], by simp [hcs], ?_⟩
      simpa [or_imp, forall_and, isConfigure] using hnone
    open_mirrors := by simpa [isOpenAfter_append] using hi.open_mirrors
    closed_once := by simpa [ho] using hi.closed_once
    close_is_last := by simp [ho]
    released_with_close := by simpa [hne] using hi.released_with_close
    reads_two := by
      intro n hn
      obtain hn | rfl : .read n ∈ s.calls ∨ n = 2 := by simpa using hn
      · exact hi.reads_two n hn
      · rfl
    read_answered_once := by simp [hr, hi.read_answered_once]
    payload_fits := by
      intro e he
      obtain he | he : .error (.transportError e) ∈ s.responses ∨ .error (.transportError e) = r := by
        simpa using he
      · exact hi.payload_fits e he
      · exact hfit e he.symm }

/-- The release in state Open keeps the invariant: its close call is the first and the last one. -/
theorem inv_release {s : State} (hi : Inv s) (ho : s.block.isOpen = true) :
    Inv ((s.transportClose.setOpen false).respond (.ok .released)) :=
  have hclose : s.calls.count .close = 0 := by simpa [ho] using hi.closed_once
  { hi with
    configured_first := by
      obtain ⟨cs, hcs, hnone⟩ := hi.configured_first
      refine ⟨cs ++ [.close], by simp [hcs], ?_⟩
      simpa [or_imp, forall_and, isConfigure] using hnone
    open_mirrors := by simp [isOpenAfter_append]
    closed_once := by simp [hclose]
    close_is_last := by simp
    released_with_close := by simp [hi.released_with_close]
    reads_two := by simpa using hi.reads_two
    read_answered_once := by simp [fromRead, hi.read_answered_once]
    payload_fits := by simpa using hi.payload_fits }

/-- A word's flag and connectivity are each other's negation (R67), so the host's DECODE keeps the invariant. -/
theorem inv_hostDecode {s : State} (hi : Inv s) (v : Word) : Inv (s.hostDecode v) :=
  have hv : (decodeJoint v).connected = !(decodeJoint v).fault := rfl
  { hi with decoded_consistent := by simpa [or_imp, forall_and, hv] using hi.decoded_consistent }

theorem exec_keeps_inv {i : Instr} {s t : State} (hi : Inv s) (h : exec i s = .next t) : Inv t := by
  cases exec_next_cases h with
  | closed _ _ ht => exact ht ▸ inv_raise_resourceClosed hi
  | transport e _ ho hr ht =>
    have hfit : e.toNat < 2 ^ s.platform.terrW.val := by simpa [Answer.fits] using nextRead_fits hr
    exact ht ▸ inv_afterRead_respond hi ho rfl (by rintro _ ⟨⟩; exact hfit)
  | acq _ _ _ ho _ ht => exact ht ▸ inv_afterRead_respond hi ho rfl (by rintro _ ⟨⟩)
  | rdtFault _ _ _ ho _ _ ht => exact ht ▸ inv_afterRead_respond hi ho rfl (by rintro _ ⟨⟩)
  | rdt _ _ _ ho _ _ ht => exact ht ▸ inv_afterRead_respond hi ho rfl (by rintro _ ⟨⟩)
  | con _ _ _ ho _ ht => exact ht ▸ inv_afterRead_respond hi ho rfl (by rintro _ ⟨⟩)
  | cls _ ho ht => exact ht ▸ inv_release hi ho
  | status v _ ht => exact ht ▸ inv_hostDecode hi v

theorem decodeSample_keeps_inv {s t : State} (hi : Inv s) (h : decodeSample s = .next t) : Inv t := by
  obtain ⟨u, hu, rfl | ⟨v, rfl⟩⟩ := decodeSample_next_cases h
  · exact exec_keeps_inv hi hu
  · exact inv_hostDecode (exec_keeps_inv hi hu) v

/-- CONSTRUCT begins a fresh run and keeps the end state of one that was released (R23, R90). -/
theorem construct_keeps_inv {cfg : Cfg} {s t : State} (hi : Inv s) (h : construct cfg s = .next t) : Inv t := by
  obtain ⟨ho, rfl⟩ := construct_next h
  refine inv_of_fresh_run (cfg := cfg) rfl rfl rfl rfl fun e he => ?_
  obtain he | rfl : e ∈ s.ended ∨ e = s.endState := by simpa using he
  · exact hi.ended_released e he
  · exact endState_released hi ho

theorem step_keeps_inv {s t : State} (hi : Inv s) (h : step s = .next t) : Inv t := by
  cases step_next_cases h with
  | idle _ ht => exact ht ▸ hi
  | construct cfg rest _ ht => exact construct_keeps_inv (inv_withInbox hi rest) ht
  | run _ i rest _ _ ht => exact exec_keeps_inv (inv_withInbox hi rest) ht
  | sample rest _ ht => exact decodeSample_keeps_inv (inv_withInbox hi rest) ht

end Sys2Proof.Proofs
end

section
/-! The statements of `spec/10_state.md`. -/

namespace Sys2Proof.Proofs

open Sys2Proof.Machine

/-- Settles O46, from the rule of each event that a step can take. -/
theorem stepKeepsTheInvariant : Obligations.StepKeepsTheInvariant :=
  fun _ _ hi h => step_keeps_inv hi h

/-- Settles O27: every other event leaves OPEN at 0. -/
theorem onlyConstructLeavesClosed : Obligations.OnlyConstructLeavesClosed := by
  refine ⟨fun s t hclosed h hopen => ?_, fun s cfg rest hp hb ho => ?_⟩
  · cases step_next_cases h with
    | idle _ ht => simp [ht, hclosed] at hopen
    | construct cfg rest hb ht =>
      obtain ⟨-, rfl⟩ := construct_next ht
      exact ⟨cfg, rest, hb, rfl⟩
    | run _ i rest _ _ ht => simp [exec_stays_closed (s := { s with inbox := rest }) hclosed ht] at hopen
    | sample rest _ ht => simp [decodeSample_stays_closed (s := { s with inbox := rest }) hclosed ht] at hopen
  · rw [step_construct hp hb]
    exact construct_open (s := { s with inbox := rest }) cfg ho

/-- Settles O28, by the ways an instruction goes on. -/
theorem onlyClsWritesTheBlock : Obligations.OnlyClsWritesTheBlock :=
  fun _ _ _ h => exec_block h

/-- Settles O38: `exec` commutes with the replacement of CFG and MODE. -/
theorem noOperationReadsCfgOrMode : Obligations.NoOperationReadsCfgOrMode :=
  fun _ _ _ cfg mode h => exec_withConfig cfg mode h

/-- Settles O39: what an instruction adds is determined, so it is the same in both states. -/
theorem historyMakesNoDifference : Obligations.HistoryMakesNoDifference := by
  intro i s s' t rs hopen hread h ht
  obtain ⟨t', rs', h', hs, hs'⟩ := exec_answers_alike hopen hread h
  obtain rfl : rs' = rs := List.append_cancel_left (hs.symm.trans ht)
  exact ⟨t', h', hs'⟩

/-- Settles O26. -/
theorem constructLeavesResetValues : Obligations.ConstructLeavesResetValues :=
  ⟨fun _ cfg ho => ⟨_, construct_closed cfg ho, rfl, rfl⟩, fun _ => ⟨rfl, rfl⟩⟩

/-- Settles O44, along the order of `Platform.refusal`. -/
theorem stepRefusesWhatTheSpecRefuses : Obligations.StepRefusesWhatTheSpecRefuses := by
  refine ⟨fun _ _ _ _ hp hb => step_overlap hp hb, fun _ _ _ _ hp hb hd => step_undecodable hp hb hd,
    ?_, ?_, ?_, ?_, ?_, ?_, ?_, ?_⟩
  iterate 7
    · intros
      exact refusal_and_step_refused (by simp [Platform.refusal, *])
  · intros
    simp [Platform.refusal, *]

/-- Settles O45: construction begins a fresh run, with no run before it. -/
theorem constructedStateMeetsTheInvariant : Obligations.ConstructedStateMeetsTheInvariant :=
  fun cfg => inv_of_fresh_run (cfg := cfg) rfl rfl rfl rfl (by simp [State.afterConstruct])

end Sys2Proof.Proofs
end

section
/-! Where a query stops, and what each operation leaves in the record of the run. -/

namespace Sys2Proof.Proofs

open Sys2Proof.Machine Sys2Proof.Laws Sys2Proof.Safety

/-- The requests are the queries and CLS (R49). -/
theorem isRequest_eq_isQuery_or_cls (i : Instr) : i.isRequest = (i.isQuery || decide (i = .cls)) := by
  cases i <;> rfl

/-- ACQ, RDT and CON are each the common shape of R80 over a decode of their own. -/
theorem exec_eq_query {i : Instr} (hi : i.isQuery = true) : ∃ k, exec i = query k := by
  cases i with
  | acq | rdt | con => exact ⟨_, rfl⟩
  | cls | swNofault | swFault => cases hi

/-- An operation that asks nothing of the transport goes on in every state. -/
theorem exec_next_of_not_isQuery {i : Instr} (s : State) (hi : i.isQuery = false) : ∃ t, exec i s = .next t := by
  cases i with
  | acq | rdt | con => cases hi
  | cls =>
    cases ho : s.block.isOpen with
    | false => exact ⟨_, exec_cls_closed ho⟩
    | true => exact ⟨_, exec_cls_open ho⟩
  | swNofault | swFault => exact ⟨_, rfl⟩

/-- A transport that never answers leaves an Open query stuck (R41). -/
theorem query_silent (k : Word → State → State) {s : State} (ho : s.block.isOpen = true)
    (hr : s.nextRead = .silent) : query k s = .fault .transportNeverAnswers := by
  simp [query, ho, hr]

/-- A reply outside the contract refuses an Open query under the reply's own name (R27). -/
theorem query_outside (k : Word → State → State) {s : State} {r : Refusal} (ho : s.block.isOpen = true)
    (hr : s.nextRead = .outside r) : query k s = .refused r := by
  simp [query, ho, hr]

/-- Another number of bytes than two is outside the contract (R27, U12). -/
theorem readReply_of_length_ne_two (w : Fin 17) {bs : List Byte} (h : bs.length ≠ 2) :
    readReply w (.data bs) = .outside .transportByteCount := by
  match bs, h with
  | [], _ => rfl
  | [_], _ => rfl
  | [_, _], h => exact absurd rfl h
  | _ :: _ :: _ :: _, _ => rfl

/-- So is a payload of more than TERR_W bits (R5, R27). -/
theorem readReply_of_wide_payload {w : Fin 17} {e : BitVec 16} (h : 2 ^ w.val ≤ e.toNat) :
    readReply w (.error e) = .outside .transportPayloadWidth := by
  simp [readReply, Answer.fits, h]

/-- The transport answers within its contract, or the oldest scripted reply breaks it: where no reply is scripted there
always is an answer (R129). -/
theorem nextRead_got_or_broken_reply (s : State) :
    (∃ a, s.nextRead = .got a) ∨ ∃ r rest, s.script = r :: rest ∧ replyKeeps s.platform.terrW r = false := by
  cases hs : s.script with
  | nil => exact .inl ⟨_, nextRead_of_nil hs⟩
  | cons r rest =>
    cases hr : readReply s.platform.terrW r with
    | got a => exact .inl ⟨a, (nextRead_of_cons hs).trans hr⟩
    | silent | outside => exact .inr ⟨r, rest, rfl, by simp [replyKeeps, hr]⟩

/-- An instruction goes on, unless it is an Open query that meets a reply which breaks the contract. -/
theorem exec_next_or_broken_reply (i : Instr) (s : State) : (∃ t, exec i s = .next t) ∨
    (i.isQuery = true ∧ s.block.isOpen = true ∧
      ∃ r rest, s.script = r :: rest ∧ replyKeeps s.platform.terrW r = false) := by
  cases hi : i.isQuery with
  | false => exact .inl (exec_next_of_not_isQuery s hi)
  | true =>
    obtain ⟨k, hk⟩ := exec_eq_query hi
    cases ho : s.block.isOpen with
    | false => exact .inl ⟨_, hk ▸ query_closed k ho⟩
    | true =>
      obtain ⟨a, ha⟩ | hbroken := nextRead_got_or_broken_reply s
      · exact .inl ⟨_, hk ▸ query_open k ho ha⟩
      · exact .inr ⟨rfl, rfl, hbroken⟩

/-- The calls an operation makes in state Open, by the contract table (R26, R30). -/
theorem exec_calls {i : Instr} {s t : State} (h : exec i s = .next t) :
    t.calls = s.calls ++
      (if s.block.isOpen then (if i.isQuery then [.read 2] else if i = .cls then [.close] else []) else []) := by
  cases exec_next_cases h with
  | closed hi ho ht => simp [ht, ho]
  | transport e hi ho hr ht => simp [ht, ho, hi]
  | acq b0 b1 hi ho hr ht => simp [ht, ho, hi, Instr.isQuery]
  | rdtFault b0 b1 hi ho hr hf ht => simp [ht, ho, hi, Instr.isQuery]
  | rdt b0 b1 hi ho hr hf ht => simp [ht, ho, hi, Instr.isQuery]
  | con b0 b1 hi ho hr ht => simp [ht, ho, hi, Instr.isQuery]
  | cls hi ho ht => simp [ht, ho, hi, Instr.isQuery]
  | status v hi ht =>
    obtain ⟨hquery, hcls⟩ : i.isQuery = false ∧ i ≠ .cls := by simpa [isRequest_eq_isQuery_or_cls] using hi
    simp [ht, hquery, hcls]

/-- A request is answered with one response (R105), a status word with none. -/
theorem exec_responses {i : Instr} {s t : State} (h : exec i s = .next t) :
    t.responses = s.responses ∨ ∃ r, t.responses = s.responses ++ [r] := by
  cases exec_next_cases h with
  | closed _ _ ht => exact .inr ⟨_, congrArg State.responses ht⟩
  | transport _ _ _ _ ht => exact .inr ⟨_, congrArg State.responses ht⟩
  | acq _ _ _ _ _ ht => exact .inr ⟨_, congrArg State.responses ht⟩
  | rdtFault _ _ _ _ _ _ ht => exact .inr ⟨_, congrArg State.responses ht⟩
  | rdt _ _ _ _ _ _ ht => exact .inr ⟨_, congrArg State.responses ht⟩
  | con _ _ _ _ _ ht => exact .inr ⟨_, congrArg State.responses ht⟩
  | cls _ _ ht => exact .inr ⟨_, congrArg State.responses ht⟩
  | status _ _ ht => exact .inl (by simp [ht])

/-- An instruction leaves what else waits. -/
theorem exec_inbox {i : Instr} {s t : State} (h : exec i s = .next t) : t.inbox = s.inbox := by
  have hsame : t = { t with inbox := s.inbox } := Host.Outcome.next.inj (h.symm.trans (exec_withInbox s.inbox h))
  rw [hsame]

/-- The pseudo-operation DECODE answers as its ACQ does: the host's DECODE is no response (R55). -/
theorem decodeSample_responses {s t : State} (h : decodeSample s = .next t) :
    t.responses = s.responses ∨ ∃ r, t.responses = s.responses ++ [r] := by
  obtain ⟨u, hu, rfl | ⟨v, rfl⟩⟩ := decodeSample_next_cases h
  · exact exec_responses hu
  · simpa using exec_responses hu

/-- And leaves what else waits. -/
theorem decodeSample_inbox {s t : State} (h : decodeSample s = .next t) : t.inbox = s.inbox := by
  obtain ⟨u, hu, rfl | ⟨v, rfl⟩⟩ := decodeSample_next_cases h
  · exact exec_inbox hu
  · simpa using exec_inbox hu

/-- A step takes the oldest event, if there is one, and no other. -/
theorem step_inbox {s t : State} (h : step s = .next t) : t.inbox = s.inbox.tail := by
  cases step_next_cases h with
  | idle hb ht => simp [ht, hb]
  | construct cfg rest hb ht =>
    obtain ⟨-, rfl⟩ := construct_next ht
    simp [hb]
  | run bs i rest hb hd ht => simp [exec_inbox ht, hb]
  | sample rest hb ht => simp [decodeSample_inbox ht, hb]

/-- A step keeps the responses or adds one, unless a CONSTRUCT begins a new record. -/
theorem step_responses {s t : State} (h : step s = .next t) : t.responses = s.responses ∨
    (∃ r, t.responses = s.responses ++ [r]) ∨ ∃ cfg, s.inbox.head? = some (.construct cfg) := by
  cases step_next_cases h with
  | idle _ ht => exact .inl (ht ▸ rfl)
  | construct cfg rest hb _ => exact .inr (.inr ⟨cfg, by simp [hb]⟩)
  | run _ i rest _ _ ht => exact (exec_responses ht).imp_right .inl
  | sample rest _ ht => exact (decodeSample_responses ht).imp_right .inl

end Sys2Proof.Proofs
end

section
/-! The statements of `spec/20_memory.md`. -/

namespace Sys2Proof.Proofs

open Sys2Proof.Machine Sys2Proof.Laws

/-- Settles O23: the reply the script holds decides an Open query, and nothing else stops. -/
theorem queriesStopOnlyOnBrokenTransport : Obligations.QueriesStopOnlyOnBrokenTransport := by
  refine ⟨fun i s hi ho => ?_, exec_next_or_broken_reply⟩
  obtain ⟨k, hk⟩ := exec_eq_query hi
  rw [hk]
  refine ⟨fun rest hs => ?_, fun bs rest hs hlen => ?_, fun e rest hs hwide => ?_, fun hs => ?_⟩
  · exact query_silent k ho (nextRead_of_cons hs)
  · exact query_outside k ho ((nextRead_of_cons hs).trans (readReply_of_length_ne_two _ hlen))
  · exact query_outside k ho ((nextRead_of_cons hs).trans (readReply_of_wide_payload hwide))
  · exact ⟨_, _, nextRead_of_nil hs, query_open k ho (nextRead_of_nil hs)⟩

/-- Settles O29, by the ways an instruction goes on. -/
theorem transportCallsOfEachOperation : Obligations.TransportCallsOfEachOperation :=
  fun _ _ _ h => exec_calls h

/-- Settles O43: with no event waiting the step is the identity, so one that changes the responses took an event. -/
theorem nothingIsEmittedUnasked : Obligations.NothingIsEmittedUnasked := by
  refine ⟨fun s hp hb => step_nil hp hb, fun s t h hne => ⟨⟨step_inbox h, fun hb => ?_⟩, ?_⟩⟩
  · have hidle : Host.Outcome.next t = .next s := h.symm.trans (step_nil (platform_refusal_of_step h) hb)
    exact hne (congrArg State.responses (Host.Outcome.next.inj hidle))
  · exact (step_responses h).resolve_left hne

/-- Settles O42. -/
theorem stepRunsTheDecodedFrame : Obligations.StepRunsTheDecodedFrame :=
  fun _ _ _ _ hp hb hd => step_frame hp hb hd

end Sys2Proof.Proofs
end

section
/-! The decoder and the encoder, format by format: a request code (R49) and a status word (R45, R48). -/

namespace Sys2Proof.Proofs

open Sys2Proof.Machine Sys2Proof.Laws

/-- The class of a word assembled from fields is the flag put in, and its fields come back. -/
theorem decodeWord_statusWord (r : BitVec 1) (m : Mag) (f : Bool) (i : BitVec 2) :
    decodeWord (statusWord r m f i) = if f then .swFault r m i else .swNofault r m i := by
  simp only [decodeWord, fault_statusWord, rsv15_statusWord, mag_statusWord, ident_statusWord]

/-- The encoder sees no more of a word than its fields, which are all of it. -/
theorem encode_decodeWord (v : Word) : encode (decodeWord v) = encodeWord v := by
  rw [← statusWord_fields v, decodeWord_statusWord]
  cases fault v with
  | false | true => rfl

theorem encodeWord_word (b0 b1 : Byte) : encodeWord (word b0 b1) = [b0, b1] := by
  rw [encodeWord, highByte_word, lowByte_word]

theorem decode_encodeWord (v : Word) : decode (encodeWord v) = .ok (decodeWord v) := by
  rw [encodeWord, decode, word_bytes]

theorem encode_decodeReq : ∀ op : ReqOp, encode (decodeReq op) = [op.setWidth 8] := by decide

theorem decodeReq_isRequest : ∀ op : ReqOp, (decodeReq op).isRequest = true := by decide

/-- No two codes have one meaning. -/
theorem decodeReq_injective : Function.Injective decodeReq := by
  intro a b h
  have hbytes : [a.setWidth 8] = [b.setWidth 8] := by rw [← encode_decodeReq, h, encode_decodeReq]
  simpa using congrArg (BitVec.setWidth 2) (List.head_eq_of_cons_eq hbytes)

/-- Every request has a code. -/
theorem exists_decodeReq {i : Instr} (hi : i.isRequest = true) : ∃ op, decodeReq op = i := by
  cases i with
  | acq => exact ⟨0b00#2, rfl⟩
  | rdt => exact ⟨0b01#2, rfl⟩
  | con => exact ⟨0b10#2, rfl⟩
  | cls => exact ⟨0b11#2, rfl⟩
  | swNofault | swFault => cases hi

theorem decode_encode (i : Instr) : decode (encode i) = .ok i := by
  cases i with
  | acq | rdt | con | cls => rfl
  | swNofault r m d => rw [encode, decode_encodeWord, decodeWord_statusWord]; rfl
  | swFault r m d => rw [encode, decode_encodeWord, decodeWord_statusWord]; rfl

/-- A request code in a byte, zeros above it (log entry 8). -/
theorem decode_requestCode (op : ReqOp) : decode [op.setWidth 8] = .ok (decodeReq op) := by
  rw [← encode_decodeReq, decode_encode]

/-- A byte below 4 is the zero-extension of its two low bits. -/
theorem setWidth_setWidth_of_lt_four {b : Byte} (h : b.toNat < 4) : (b.setWidth 2).setWidth 8 = b := by
  apply BitVec.eq_of_toNat_eq
  rw [BitVec.toNat_setWidth_of_le (by decide), BitVec.toNat_setWidth, Nat.mod_eq_of_lt h]

theorem decode_byte_of_lt {b : Byte} (h : b.toNat < 4) : decode [b] = .ok (decodeReq (b.setWidth 2)) :=
  if_pos h

theorem decode_byte_of_ge {b : Byte} (h : 4 ≤ b.toNat) : decode [b] = .error (.notARequest b) :=
  if_neg (by omega)

theorem decode_tooLong {bs : List Byte} (h : 2 < bs.length) : decode bs = .error (.tooLong bs.length) := by
  match bs, h with
  | _ :: _ :: _ :: _, _ => rfl

theorem encode_of_decode {bs : List Byte} {i : Instr} (h : decode bs = .ok i) : encode i = bs := by
  match bs, h with
  | [b], h =>
    by_cases hb : b.toNat < 4
    · cases (decode_byte_of_lt hb).symm.trans h
      rw [encode_decodeReq, setWidth_setWidth_of_lt_four hb]
    · cases (decode_byte_of_ge (by omega)).symm.trans h
  | [b0, b1], h =>
    cases h
    rw [encode_decodeWord, encodeWord_word]

/-- The family `Framing`, for all instructions at once. -/
theorem encode_framing (i : Instr) : Framing.Statement i := by
  cases i with
  | acq => exact Framing.acq
  | rdt => exact Framing.rdt
  | con => exact Framing.con
  | cls => exact Framing.cls
  | swNofault r m d => exact Framing.swNofault r m d
  | swFault r m d => exact Framing.swFault r m d

/-- The bytes that decode are the well-formed frames. -/
theorem exists_decode_iff_frameWf (bs : List Byte) : (∃ i, decode bs = .ok i) ↔ frameWf bs = true := by
  constructor
  · rintro ⟨i, h⟩
    obtain ⟨hwf, -⟩ := encode_framing i
    exact encode_of_decode h ▸ hwf
  · intro h
    match bs, h with
    | [b], h => exact ⟨_, decode_byte_of_lt (of_decide_eq_true h)⟩
    | [b0, b1], _ => exact ⟨_, rfl⟩

end Sys2Proof.Proofs
end

section
/-! The bits of a response (R50, R51), and what bits 14..2 of a word decide (R46, R47). -/

namespace Sys2Proof.Proofs

open Sys2Proof.Machine Sys2Proof.Laws

@[simp] theorem status_ok (v : Value) : (Response.ok v).status = 0b00#2 := rfl
@[simp] theorem status_resourceClosed : (Response.error .resourceClosed).status = 0b01#2 := rfl
@[simp] theorem status_thermocoupleFault : (Response.error .thermocoupleFault).status = 0b10#2 := rfl
@[simp] theorem status_transportError (e : BitVec 16) : (Response.error (.transportError e)).status = 0b11#2 := rfl

/-- All four status codes are used (R54). -/
theorem exists_response_of_status (c : BitVec 2) : ∃ r : Response, r.status = c := by
  have hcodes : ∀ c : BitVec 2, c = 0b00#2 ∨ c = 0b01#2 ∨ c = 0b10#2 ∨ c = 0b11#2 := by decide
  obtain rfl | rfl | rfl | rfl := hcodes c
  · exact ⟨_, status_ok .released⟩
  · exact ⟨_, status_resourceClosed⟩
  · exact ⟨_, status_thermocoupleFault⟩
  · exact ⟨_, status_transportError 0#16⟩

/-- A magnitude leaves the upper four bits of `rsp_data` clear. -/
theorem setWidth_mag_and_upper (q : Mag) : q.setWidth 16 &&& 0xF000#16 = 0#16 := by
  have hmask : ∀ k : Fin 16, (0xF000#16).getLsbD k = decide (12 ≤ k.val) := by decide
  ext k hk
  rw [BitVec.getElem_and, ← BitVec.getLsbD_eq_getElem (x := 0xF000#16), hmask ⟨k, hk⟩]
  by_cases h : 12 ≤ k
  · simp [BitVec.getLsbD_of_ge q k h]
  · simp [h]

/-- Words that agree under the mask 0x7FFC agree on each of bits 14..2. -/
theorem getLsbD_eq_of_and_eq {v w : Word} (h : v &&& 0x7FFC#16 = w &&& 0x7FFC#16) {k : Nat} (h2 : 2 ≤ k)
    (h15 : k < 15) : v.getLsbD k = w.getLsbD k := by
  have hmask : ∀ j : Fin 15, 2 ≤ j.val → (0x7FFC#16).getLsbD j = true := by decide
  simpa [hmask ⟨k, h15⟩ h2] using congrArg (fun u => BitVec.getLsbD u k) h

theorem fault_eq_of_and_eq {v w : Word} (h : v &&& 0x7FFC#16 = w &&& 0x7FFC#16) : fault v = fault w :=
  getLsbD_eq_of_and_eq h (by omega) (by omega)

theorem tempq_eq_of_and_eq {v w : Word} (h : v &&& 0x7FFC#16 = w &&& 0x7FFC#16) : tempq v = tempq w := by
  ext k hk
  simpa [tempq, mag] using getLsbD_eq_of_and_eq h (k := 3 + k) (by omega) (by omega)

end Sys2Proof.Proofs
end

section
/-! The answer of an Open query to two scripted bytes, and the pseudo-operation DECODE (R55). -/

namespace Sys2Proof.Proofs

open Sys2Proof.Machine Sys2Proof.Laws

/-- An Open query that meets two scripted bytes decodes their word; the bytes enter in no other way. -/
theorem query_scripted (k : Word → State → State) {s : State} (ho : s.block.isOpen = true) (b0 b1 : Byte)
    (rest : List Reply) : query k { s with script := .data [b0, b1] :: rest } =
      .next (k (word b0 b1) { s with calls := s.calls ++ [.read 2], script := rest, draws := s.draws + 1 }) :=
  query_open k (s := { s with script := .data [b0, b1] :: rest }) (a := .bytes b0 b1) ho rfl

/-- The host applies DECODE to the word of an ACQ it has just been answered. -/
theorem decodeLatest_respond_raw (v : Word) (s : State) :
    (s.respond (.ok (.raw v))).decodeLatest = (s.respond (.ok (.raw v))).hostDecode v := by
  simp [State.decodeLatest]

/-- An error carries no word to decode. -/
theorem decodeLatest_raise (k : ErrorKind) (s : State) : (s.raise k).decodeLatest = s.raise k := by
  simp [State.decodeLatest]

/-- The pseudo-operation goes on where its ACQ does. -/
theorem decodeSample_of_acq {s t : State} (h : exec .acq s = .next t) : decodeSample s = .next t.decodeLatest := by
  rw [decodeSample, show execAcq s = .next t from h]

end Sys2Proof.Proofs
end

section
/-! The statements of `spec/30_encoding.md`. -/

namespace Sys2Proof.Proofs

open Sys2Proof.Machine Sys2Proof.Laws

/-- Settles O10: a request by its code, a status word by its fields. -/
theorem decodeInvertsEncode : Obligations.DecodeInvertsEncode :=
  decode_encode

/-- Settles O11, by the length of the frame. -/
theorem encodeInvertsDecode : Obligations.EncodeInvertsDecode :=
  fun _ _ h => encode_of_decode h

/-- Settles O12: a code by its injective decoding, a byte pair by the fault flag in its second byte. -/
theorem noWordOrCodeIsIllegal : Obligations.NoWordOrCodeIsIllegal := by
  refine ⟨fun op => ⟨decode_requestCode op, decodeReq_isRequest op⟩, fun i hi => ?_, fun b0 b1 => ?_,
    exists_response_of_status⟩
  · obtain ⟨op, hop⟩ := exists_decodeReq hi
    exact ⟨op, hop, fun op' hop' => decodeReq_injective (hop'.trans hop.symm)⟩
  · rw [decode, decodeWord, fault_word]

/-- Settles O13. -/
theorem otherFramesAreRejectedByName : Obligations.OtherFramesAreRejectedByName :=
  ⟨rfl, fun _ h => decode_byte_of_ge h, fun _ h => decode_tooLong h, exists_decode_iff_frameWf⟩

/-- Settles O36: the step is the ACQ's, and the host's DECODE of the word it answers with, if it answers with one. -/
theorem pseudoDecodeIsOneAcqThenDecode : Obligations.PseudoDecodeIsOneAcqThenDecode := by
  intro s rest hp hb
  rw [step_decodeSample hp hb]
  refine ⟨fun ho b0 b1 hr => ?_, fun ho e hr => ?_, fun ho => ?_⟩
  · rw [decodeSample_of_acq (query_open _ (s := { s with inbox := rest }) ho hr), deliver, decodeLatest_respond_raw]
    rfl
  · rw [decodeSample_of_acq (query_open _ (s := { s with inbox := rest }) ho hr), deliver, decodeLatest_raise]
    rfl
  · rw [decodeSample_of_acq (query_closed _ (s := { s with inbox := rest }) ho), decodeLatest_raise]
    rfl

/-- Settles O37: RDT and CON see bits 14..2 of the word alone, ACQ puts the whole word into its response. -/
theorem reservedBitsMakeNoDifference : Obligations.ReservedBitsMakeNoDifference := by
  intro s b0 b1 c0 c1 rest ho
  simp only [exec, execRdt, execCon, execAcq, query_scripted _ ho]
  refine ⟨fun h => ?_, fun hne heq => hne ?_⟩
  · rw [connected, connected, fault_eq_of_and_eq h, tempq_eq_of_and_eq h]
    exact ⟨rfl, rfl⟩
  · simpa using congrArg State.responses (Host.Outcome.next.inj heq)

/-- Settles O14, by running the decoder. -/
theorem specWordsDecodeRight : Obligations.SpecWordsDecodeRight :=
  ⟨decode_encode .acq, decode_encode .rdt, decode_encode .con, decode_encode .cls, rfl, rfl⟩

/-- Settles O15, by the outcome. -/
theorem statusCodesTellOutcomesApart : Obligations.StatusCodesTellOutcomesApart := by
  intro r
  cases r with
  | ok v => simp
  | error k =>
    cases k with
    | resourceClosed | thermocoupleFault | transportError => simp

/-- Settles O16, layout by layout. -/
theorem responseDataLayouts : Obligations.ResponseDataLayouts := by
  refine ⟨fun _ => rfl, fun q => ⟨?_, setWidth_mag_and_upper q⟩, fun c => ?_, fun r hr => ?_, fun _ => rfl⟩
  · exact BitVec.toNat_setWidth_of_le (by decide)
  · cases c <;> rfl
  · obtain rfl | rfl | rfl := hr <;> rfl

end Sys2Proof.Proofs
end

section
/-! The decode datapath by numbers and by masks (`spec/40_decode_datapath.md` section 1): what the fields of a word are
as numbers (R65, R68, R70), and what a mask keeps of them. -/

namespace Sys2Proof.Proofs

open Sys2Proof.Machine Sys2Proof.Laws

/-- WORD puts its bytes side by side. -/
theorem word_eq_append (b0 b1 : Byte) : word b0 b1 = b0 ++ b1 := by
  ext k hk
  rw [← BitVec.getLsbD_eq_getElem, ← BitVec.getLsbD_eq_getElem, getLsbD_word, BitVec.getLsbD_append]

theorem toNat_word (b0 b1 : Byte) : (word b0 b1).toNat = 256 * b0.toNat + b1.toNat := by
  rw [word_eq_append, BitVec.toNat_append, ← Nat.shiftLeft_add_eq_or_of_lt b1.isLt, Nat.shiftLeft_eq,
    Nat.mul_comm]

/-- A word and its two bytes determine each other. -/
theorem word_eq_iff {v : Word} {b0 b1 : Byte} : word b0 b1 = v ↔ b0 = highByte v ∧ b1 = lowByte v := by
  constructor
  · rintro rfl
    exact ⟨(highByte_word b0 b1).symm, (lowByte_word b0 b1).symm⟩
  · rintro ⟨rfl, rfl⟩
    exact word_bytes v

/-- The magnitude as a number: the word's quotient by 8, bit 15 masked out of it (R68, conflict C1). -/
theorem toNat_mag (v : Word) : (mag v).toNat = v.toNat / 8 % 4096 := by
  rw [mag, BitVec.extractLsb'_toNat, Nat.shiftRight_eq_div_pow]

theorem toNat_mag_le (v : Word) : (mag v).toNat ≤ 4095 := by
  have := (mag v).isLt
  omega

/-- Bit 15 is clear on the words below 0x8000. -/
theorem getLsbD_fifteen (v : Word) : v.getLsbD 15 = decide (32768 ≤ v.toNat) :=
  v.msb_eq_getLsbD_last.symm.trans v.msb_eq_decide

theorem setWidth_mag (v : Word) : (mag v).setWidth 16 = v >>> 3 &&& 0x0FFF#16 := by
  apply BitVec.eq_of_toNat_eq
  rw [BitVec.toNat_setWidth_of_le (by decide), toNat_mag, BitVec.toNat_and, BitVec.toNat_ushiftRight,
    Nat.shiftRight_eq_div_pow]
  exact (Nat.and_two_pow_sub_one_eq_mod (v.toNat / 2 ^ 3) 12).symm

/-- What the mask 4 keeps of a word is the fault flag, in its place (R66). -/
theorem and_faultMask (v : Word) : v &&& 0x0004#16 = if fault v then 0x0004#16 else 0x0000#16 :=
  v.and_twoPow 2

theorem and_faultMask_eq_zero_iff (v : Word) : v &&& 0x0004#16 = 0x0000#16 ↔ fault v = false := by
  rw [and_faultMask]
  cases fault v with
  | false | true => decide

theorem and_faultMask_eq_mask_iff (v : Word) : v &&& 0x0004#16 = 0x0004#16 ↔ fault v = true := by
  rw [and_faultMask]
  cases fault v with
  | false | true => decide

/-- The magnitude of a masked word is the magnitude, masked by the mask's own. -/
theorem mag_and (v w : Word) : mag (v &&& w) = mag v &&& mag w :=
  BitVec.extractLsb'_and

/-- The bits outside the magnitude's mask make no difference to it. -/
theorem mag_and_magBits (v : Word) : mag (v &&& 0x7FF8#16) = mag v := by
  rw [mag_and, show mag 0x7FF8#16 = BitVec.allOnes 12 by decide, BitVec.and_allOnes]

/-- Words of equal fields are equal. -/
theorem word_ext {v w : Word} (hr : rsv15 v = rsv15 w) (hm : mag v = mag w) (hf : fault v = fault w)
    (hi : ident v = ident w) : v = w := by
  rw [← statusWord_fields v, ← statusWord_fields w, hr, hm, hf, hi]

/-- The mask 0x7FFC keeps flag and magnitude and clears the fields that mean nothing (R46, R47). -/
theorem and_readingMask (v : Word) : v &&& 0x7FFC#16 = statusWord 0#1 (mag v) (fault v) 0#2 := by
  apply word_ext
  · rw [rsv15_statusWord, rsv15, BitVec.extractLsb'_and, show (0x7FFC#16).extractLsb' 15 1 = 0#1 by decide,
      BitVec.and_zero]
  · rw [mag_statusWord, mag_and, show mag 0x7FFC#16 = BitVec.allOnes 12 by decide, BitVec.and_allOnes]
  · rw [fault_statusWord, fault, fault, BitVec.getLsbD_and, show (0x7FFC#16).getLsbD 2 = true by decide,
      Bool.and_true]
  · rw [ident_statusWord, ident, BitVec.extractLsb'_and, show (0x7FFC#16).extractLsb' 0 2 = 0#2 by decide,
      BitVec.and_zero]

/-- A fault-free word as its fields shifted into their places. -/
theorem statusWord_noFault (r : BitVec 1) (m : Mag) (i : BitVec 2) :
    statusWord r m false i = (m.setWidth 16 <<< 3) ||| (r.setWidth 16 <<< 15) ||| i.setWidth 16 := by
  ext k hk
  rw [← BitVec.getLsbD_eq_getElem, ← BitVec.getLsbD_eq_getElem, getLsbD_statusWord]
  simp only [BitVec.getLsbD_or, BitVec.getLsbD_shiftLeft, BitVec.getLsbD_setWidth, hk, decide_true, Bool.true_and]
  by_cases h2 : k < 2
  · simp [h2, show k < 3 by omega, show k < 15 by omega]
  · by_cases h3 : k < 3
    · simp [h2, h3, show k < 15 by omega, BitVec.getLsbD_of_ge i k (by omega)]
    · by_cases h15 : k < 15
      · simp [h2, h3, h15, show k - 3 < 16 by omega, BitVec.getLsbD_of_ge i k (by omega)]
      · simp [h2, h3, h15, show k - 15 < 16 by omega, BitVec.getLsbD_of_ge i k (by omega),
          BitVec.getLsbD_of_ge m (k - 3) (by omega)]

end Sys2Proof.Proofs
end

section
/-! How many words there are to a class (R73) and to a reading (R75): a word is its four fields, so they are counted by
the fields left free. -/

namespace Sys2Proof.Proofs

open Sys2Proof.Machine Sys2Proof.Laws

theorem card_bitVec (n : Nat) : Nat.card (BitVec n) = 2 ^ n :=
  (Nat.card_congr BitVec.equivFin.toEquiv).trans (Nat.card_fin _)

/-- The words of a reading by the fields that mean nothing. -/
theorem fault_mag_eq_iff {v : Word} {f : Bool} {m : Mag} :
    fault v = f ∧ mag v = m ↔ ∃ r i, v = statusWord r m f i := by
  constructor
  · rintro ⟨rfl, rfl⟩
    exact ⟨_, _, (statusWord_fields v).symm⟩
  · rintro ⟨r, i, rfl⟩
    exact ⟨fault_statusWord r m f i, mag_statusWord r m f i⟩

/-- The word of a class with the given other fields. -/
def classWord (f : Bool) (p : BitVec 1 × Mag × BitVec 2) : Word := statusWord p.1 p.2.1 f p.2.2

/-- The fields of a word of one class determine it and are determined by it. -/
theorem classWord_injective (f : Bool) : Function.Injective (classWord f) := by
  rintro ⟨r, m, i⟩ ⟨r', m', i'⟩ h
  have hr := congrArg rsv15 h
  have hm := congrArg mag h
  have hi := congrArg ident h
  simp only [classWord, rsv15_statusWord, mag_statusWord, ident_statusWord] at hr hm hi
  rw [hr, hm, hi]

theorem ncard_fault_eq (f : Bool) : Set.ncard { v : Word | fault v = f } = 32768 := by
  have hrange : { v : Word | fault v = f } = Set.range (classWord f) := by
    ext v
    constructor
    · rintro rfl
      exact ⟨(rsv15 v, mag v, ident v), statusWord_fields v⟩
    · rintro ⟨p, rfl⟩
      exact fault_statusWord _ _ _ _
  rw [hrange, Set.ncard_range_of_injective (classWord_injective f)]
  simp only [Nat.card_prod, card_bitVec]
  norm_num

/-- The word of a reading with the given fields that mean nothing. -/
def readingWord (f : Bool) (m : Mag) (p : BitVec 1 × BitVec 2) : Word := classWord f (p.1, m, p.2)

theorem readingWord_injective (f : Bool) (m : Mag) : Function.Injective (readingWord f m) := by
  rintro ⟨r, i⟩ ⟨r', i'⟩ h
  simpa using classWord_injective f h

theorem ncard_fault_mag_eq (f : Bool) (m : Mag) : Set.ncard { v : Word | fault v = f ∧ mag v = m } = 8 := by
  have hrange : { v : Word | fault v = f ∧ mag v = m } = Set.range (readingWord f m) := by
    ext v
    exact fault_mag_eq_iff.trans
      ⟨fun ⟨r, i, h⟩ => ⟨(r, i), h.symm⟩, fun ⟨(r, i), h⟩ => ⟨r, i, h.symm⟩⟩
  rw [hrange, Set.ncard_range_of_injective (readingWord_injective f m)]
  simp only [Nat.card_prod, card_bitVec]
  norm_num

end Sys2Proof.Proofs
end

section
/-! The number a magnitude denotes (R53, R69), and its whole degrees and quarters (R70). -/

namespace Sys2Proof.Proofs

open Sys2Proof.Machine Sys2Proof.Laws

theorem celsius_eq_mul_quarter (q : Mag) : celsius q = (q.toNat : Rat) * (1 / 4) := by
  rw [celsius, div_eq_mul_one_div]

/-- Different magnitudes denote different temperatures: nothing is rounded or clamped. -/
theorem celsius_injective : Function.Injective celsius := by
  intro p q h
  have hnum : (p.toNat : Rat) = q.toNat := by simpa [celsius] using h
  exact BitVec.eq_of_toNat_eq (Nat.cast_injective hnum)

theorem celsius_nonneg (q : Mag) : 0 ≤ celsius q := by
  rw [celsius]
  positivity

theorem celsius_le (q : Mag) : celsius q ≤ 1023.75 := by
  have hq : (q.toNat : Rat) ≤ 4095 := by exact_mod_cast Nat.le_of_lt_succ q.isLt
  rw [celsius]
  linarith

theorem toNat_tempInt (v : Word) : (tempInt v).toNat = (tempq v).toNat / 4 := by
  rw [tempInt, BitVec.extractLsb'_toNat, Nat.shiftRight_eq_div_pow]
  have := (tempq v).isLt
  omega

theorem toNat_tempFrac (v : Word) : (tempFrac v).toNat = (tempq v).toNat % 4 := by
  rw [tempFrac, BitVec.extractLsb'_toNat, Nat.shiftRight_zero]

/-- The whole degrees are the temperature rounded down. -/
theorem tempInt_eq_floor (v : Word) : ((tempInt v).toNat : Int) = ⌊tempC v⌋ := by
  rw [toNat_tempInt, tempC, celsius]
  exact (Rat.floor_natCast_div_natCast (tempq v).toNat 4).symm

/-- The temperature is its whole degrees and the quarters left over. -/
theorem tempC_eq_tempInt_add_tempFrac (v : Word) :
    tempC v = ((tempInt v).toNat : Rat) + ((tempFrac v).toNat : Rat) * (1 / 4) := by
  have hsplit : ((tempq v).toNat : Rat) = 4 * (tempInt v).toNat + (tempFrac v).toNat := by
    rw [toNat_tempInt, toNat_tempFrac]
    exact_mod_cast (Nat.div_add_mod _ 4).symm
  rw [tempC, celsius, hsplit]
  ring

/-- TEMPQ is its two views, put side by side. -/
theorem tempq_eq_tempInt_or_tempFrac (v : Word) :
    tempq v = ((tempInt v).setWidth 12 <<< 2) ||| (tempFrac v).setWidth 12 := by
  ext k hk
  rw [← BitVec.getLsbD_eq_getElem, ← BitVec.getLsbD_eq_getElem]
  by_cases h2 : k < 2
  · simp [tempInt, tempFrac, hk, h2]
  · simp [tempInt, tempFrac, hk, h2, show k - 2 < 10 by omega, show 2 + (k - 2) = k by omega]

end Sys2Proof.Proofs
end

section
/-! What RDT and CON answer to the bytes of an Open read (R82, R83), and the host's DECODE of a word (R76). -/

namespace Sys2Proof.Proofs

open Sys2Proof.Machine Sys2Proof.Laws

section OpenRead

variable {s : State} {b0 b1 : Byte} (ho : s.block.isOpen = true) (hr : s.nextRead = .got (.bytes b0 b1))
include ho hr

theorem exec_rdt_bytes_noFault (hf : fault (word b0 b1) = false) :
    exec .rdt s = .next (s.afterRead.respond (.ok (.temperature (tempq (word b0 b1))))) := by
  rw [exec, execRdt, query_open _ ho hr, deliver, hf]
  rfl

theorem exec_rdt_bytes_fault (hf : fault (word b0 b1) = true) :
    exec .rdt s = .next (s.afterRead.raise .thermocoupleFault) := by
  rw [exec, execRdt, query_open _ ho hr, deliver, hf]
  rfl

theorem exec_con_bytes :
    exec .con s = .next (s.afterRead.respond (.ok (.connected (connected (word b0 b1))))) := by
  rw [exec, execCon, query_open _ ho hr, deliver]

/-- RDT answers an Open read with a temperature exactly when the word carries no fault. -/
theorem exec_rdt_bytes : ∃ t, exec .rdt s = .next t ∧
    (t.responses = s.responses ++ [.ok (.temperature (tempq (word b0 b1)))] ↔ fault (word b0 b1) = false) := by
  cases hf : fault (word b0 b1) with
  | false => exact ⟨_, exec_rdt_bytes_noFault ho hr hf, by simp⟩
  | true => exact ⟨_, exec_rdt_bytes_fault ho hr hf, by simp⟩

end OpenRead

theorem decodeJoint_statusWord (r : BitVec 1) (m : Mag) (f : Bool) (i : BitVec 2) :
    decodeJoint (statusWord r m f i) = { fault := f, connected := !f, tempq := m } := by
  rw [decodeJoint, connected, tempq, fault_statusWord, mag_statusWord]

end Sys2Proof.Proofs
end

section
/-! The statements of `spec/40_decode_datapath.md`. -/

namespace Sys2Proof.Proofs

open Sys2Proof.Machine Sys2Proof.Laws

/-- Settles O1: the word's number by the bytes side by side, the pair of a word by the two bytes it has. -/
theorem wordPutsFirstByteHigh : Obligations.WordPutsFirstByteHigh :=
  ⟨fun b0 b1 => ⟨rfl, toNat_word b0 b1⟩, fun _ _ _ => word_eq_iff, by decide⟩

/-- Settles O2, by what the mask 4 keeps. -/
theorem faultIsBitTwoAlone : Obligations.FaultIsBitTwoAlone := by
  refine ⟨fun v => ⟨?_, rfl⟩, fun _ _ h => h, by decide⟩
  rw [Ne, and_faultMask_eq_zero_iff, Bool.not_eq_false]

/-- Settles O4: the number of the magnitude is a quotient and a remainder, and bit 15 is what the remainder drops. -/
theorem magMasksBitFifteen : Obligations.MagMasksBitFifteen := by
  refine ⟨setWidth_mag, fun v k hk => by simp [mag, hk], toNat_mag_le, fun v => (mag_and_magBits v).symm,
    fun v h => ?_, fun v h => ?_, by decide⟩
  · rw [getLsbD_fifteen, decide_eq_false_iff_not] at h
    rw [toNat_mag]
    omega
  · rw [getLsbD_fifteen, decide_eq_true_iff] at h
    rw [toNat_mag]
    omega

/-- Settles O5, by the number a magnitude denotes, which determines it. -/
theorem tempqScalesExactly : Obligations.TempqScalesExactly := by
  refine ⟨fun v => ⟨rfl, celsius_eq_mul_quarter _⟩, fun v => ⟨celsius_nonneg _, celsius_le _⟩,
    fun v w => celsius_injective.eq_iff, fun m => ?_, by decide, by decide, by decide, by decide, ?_, ?_⟩
  · exact ⟨statusWord 0#1 m false 0#2, fault_statusWord _ _ _ _, mag_statusWord _ _ _ _⟩
  · rw [tempC, show tempq 0xFFFB#16 = 4095#12 by decide]
    norm_num [celsius]
  · rw [tempC, show tempq 0x0C80#16 = 400#12 by decide]
    norm_num [celsius]

/-- Settles O6: quotient and remainder of the quarters by 4. -/
theorem tempSplitsIntoDegreesAndQuarters : Obligations.TempSplitsIntoDegreesAndQuarters := by
  refine ⟨fun v => ⟨?_, ?_⟩, tempq_eq_tempInt_or_tempFrac,
    fun v => ⟨tempInt_eq_floor v, tempC_eq_tempInt_add_tempFrac v⟩, by decide⟩
  · ext k hk
    simp [tempInt, tempq, mag, show 2 + k < 12 by omega, show 3 + (2 + k) = 5 + k by omega]
  · ext k hk
    simp [tempFrac, tempq, mag, show k < 12 by omega]

/-- Settles O7: what the mask keeps is flag and magnitude, and what it clears are three free bits. -/
theorem eachReadingHasEightWords : Obligations.EachReadingHasEightWords := by
  refine ⟨fun v w => ⟨fun ⟨hf, hq⟩ => ?_, fun h => ⟨fault_eq_of_and_eq h, tempq_eq_of_and_eq h⟩⟩,
    ncard_fault_mag_eq, fun m v => ?_⟩
  · have hm : mag v = mag w := hq
    rw [and_readingMask, and_readingMask, hf, hm]
  · simp only [fault_mag_eq_iff, statusWord_noFault]

/-- Settles O8: the class is the fault flag, and the other fields are free in it. -/
theorem wordsFallIntoTwoClasses : Obligations.WordsFallIntoTwoClasses := by
  simp only [Obligations.WordsFallIntoTwoClasses, and_faultMask_eq_zero_iff, and_faultMask_eq_mask_iff]
  refine ⟨fun v => ?_, ncard_fault_eq false, ncard_fault_eq true⟩
  cases hf : fault v with
  | false | true => simp [decodeWord, connected, hf]

/-- Settles O9. -/
theorem jointDecodeAgreesWithQueries : Obligations.JointDecodeAgreesWithQueries := by
  refine ⟨fun _ => rfl, fun s b0 b1 ho hr => ?_⟩
  obtain ⟨t, ht, htemp⟩ := exec_rdt_bytes ho hr
  exact ⟨t, _, ht, exec_con_bytes ho hr, htemp, rfl⟩

/-- Settles O20: RDT's value by the magnitude of the word as a number. -/
theorem rdtReturnsQuarterDegrees : Obligations.RdtReturnsQuarterDegrees := by
  intro s b0 b1 ho hr hbit
  have hq : (tempq (word b0 b1)).toNat = (256 * b0.toNat + b1.toNat) / 8 % 4096 := by
    rw [tempq, toNat_mag, toNat_word]
  refine ⟨_, _, exec_rdt_bytes_noFault ho hr (fault_word b0 b1 ▸ hbit), rfl, ?_, fun hlow => ?_⟩
  · rw [celsius_eq_mul_quarter, hq]
  · have := b1.isLt
    omega

/-- Settles O35. -/
theorem statusWordsAreParsed : Obligations.StatusWordsAreParsed := by
  intro r m d s
  simp only [exec, execSwNofault, execSwFault, State.hostDecode, decodeJoint_statusWord]
  exact ⟨rfl, rfl⟩

/-- Settles O3, by what the mask 4 keeps. -/
theorem connectedNegatesFault : Obligations.ConnectedNegatesFault := by
  refine ⟨fun v => ⟨?_, rfl⟩, by decide⟩
  rw [and_faultMask_eq_zero_iff, connected, Bool.not_eq_true']

end Sys2Proof.Proofs
end

section
/-! The outcomes of a query as whole next states (R80), and their values as numbers (R81 to R83). -/

namespace Sys2Proof.Proofs

open Sys2Proof.Machine Sys2Proof.Laws

section AnyQuery

variable {i : Instr} {s : State} (hi : i.isQuery = true)
include hi

/-- The closed test comes first in every query (R80, R101). -/
theorem exec_query_closed (ho : s.block.isOpen = false) : exec i s = .next (s.raise .resourceClosed) := by
  obtain ⟨k, hk⟩ := exec_eq_query hi
  rw [hk, query_closed k ho]

/-- An error answer is raised with its payload, whatever the query decodes (R80, R103). -/
theorem exec_query_err (ho : s.block.isOpen = true) {e : BitVec 16} (hr : s.nextRead = .got (.err e)) :
    exec i s = .next (s.afterRead.raise (.transportError e)) := by
  obtain ⟨k, hk⟩ := exec_eq_query hi
  rw [hk, query_open k ho hr, deliver]

/-- A query that goes on in state Open is one read and one response, and nothing else (R84, R105). -/
theorem exec_query_open_next {t : State} (ho : s.block.isOpen = true) (h : exec i s = .next t) :
    ∃ r, t = s.afterRead.respond r := by
  cases exec_next_cases h with
  | closed _ hc _ => rw [ho] at hc; cases hc
  | transport _ _ _ _ ht => exact ⟨_, ht⟩
  | acq _ _ _ _ _ ht => exact ⟨_, ht⟩
  | rdtFault _ _ _ _ _ _ ht => exact ⟨_, ht⟩
  | rdt _ _ _ _ _ _ ht => exact ⟨_, ht⟩
  | con _ _ _ _ _ ht => exact ⟨_, ht⟩
  | cls hcls _ _ => subst hcls; cases hi
  | status _ hreq _ => simp [isRequest_eq_isQuery_or_cls, hi] at hreq

end AnyQuery

/-- ACQ answers an Open read with the word as received (R81). -/
theorem exec_acq_bytes {s : State} {b0 b1 : Byte} (ho : s.block.isOpen = true)
    (hr : s.nextRead = .got (.bytes b0 b1)) :
    exec .acq s = .next (s.afterRead.respond (.ok (.raw (word b0 b1)))) := by
  rw [exec, execAcq, query_open _ ho hr, deliver]

theorem word_eq_ofNat (b0 b1 : Byte) : word b0 b1 = BitVec.ofNat 16 (256 * b0.toNat + b1.toNat) := by
  rw [← toNat_word, BitVec.ofNat_toNat, BitVec.setWidth_eq]

theorem tempq_eq_ofNat (v : Word) : tempq v = BitVec.ofNat 12 (v.toNat / 8) :=
  BitVec.eq_of_toNat_eq ((toNat_mag v).trans (BitVec.toNat_ofNat (v.toNat / 8) 12).symm)

theorem connected_eq_decide (v : Word) : connected v = decide (v &&& 0x0004#16 = 0x0000#16) := by
  simp [connected, and_faultMask_eq_zero_iff]

/-- The data of a temperature response fits 12 bits (R51, R82). -/
theorem toNat_data_temperature_le (q : Mag) : (Response.ok (.temperature q)).data.toNat ≤ 0x0FFF :=
  (BitVec.toNat_setWidth_of_le (by decide)).trans_le (Nat.le_of_lt_succ q.isLt)

end Sys2Proof.Proofs
end

section
/-! A list of queries runs to its end: each is one step, one read and one response (R84). -/

namespace Sys2Proof.Proofs

open Sys2Proof.Machine Sys2Proof.Laws Sys2Proof.Safety

/-- A run takes its first step and goes on from there. -/
theorem run_succ_of_step {n : Nat} {s t : State} (h : step s = .next t) :
    Host.Core.run Sys2Proof.core (n + 1) s = Host.Core.run Sys2Proof.core n t := by
  have hcore : Sys2Proof.core.step s = .next t := h
  simp only [Host.Core.run, hcore]

/-- A transport that keeps its contract lets every instruction go on (R27, R129). -/
theorem exec_next_of_replies_keep (i : Instr) {s : State} (hs : s.script.all (replyKeeps s.platform.terrW) = true) :
    ∃ t, exec i s = .next t := by
  obtain hnext | ⟨-, -, r, rest, hcons, hbroken⟩ := exec_next_or_broken_reply i s
  · exact hnext
  · simp [hcons, hbroken] at hs

/-- The step that takes a waiting query in state Open. -/
theorem step_query_open {i : Instr} {s : State} {rest : List HostEvent} (hi : i.isQuery = true)
    (hp : s.platform.refusal = none) (ho : s.block.isOpen = true)
    (hs : s.script.all (replyKeeps s.platform.terrW) = true) (hb : s.inbox = .frame (encode i) :: rest) :
    ∃ r, step s = .next (State.respond r (State.afterRead { s with inbox := rest })) := by
  obtain ⟨t, ht⟩ := exec_next_of_replies_keep i (s := { s with inbox := rest }) hs
  obtain ⟨r, rfl⟩ := exec_query_open_next (s := { s with inbox := rest }) hi ho ht
  exact ⟨r, (step_frame hp hb (decode_encode i)).trans ht⟩

/-- So many queries, so many reads and responses: each step leaves the rest of the queries, state Open and a
transport that keeps its contract. -/
theorem run_queries (ops : List Instr) (s : State) (hq : ∀ i ∈ ops, i.isQuery = true)
    (hp : s.platform.refusal = none) (ho : s.block.isOpen = true)
    (hs : s.script.all (replyKeeps s.platform.terrW) = true)
    (hb : s.inbox = ops.map (fun i => HostEvent.frame (encode i))) :
    ∃ t : State, Host.Core.run Sys2Proof.core ops.length s = .next t ∧ t.inbox = [] ∧ t.block = s.block ∧
      t.calls = s.calls ++ List.replicate ops.length (.read 2) ∧
      t.responses.length = s.responses.length + ops.length := by
  induction ops generalizing s with
  | nil => exact ⟨s, rfl, hb, rfl, by simp, rfl⟩
  | cons i ops ih =>
    obtain ⟨hi, hq'⟩ := List.forall_mem_cons.mp hq
    obtain ⟨r, hstep⟩ := step_query_open hi hp ho hs hb
    have hs' : s.script.tail.all (replyKeeps s.platform.terrW) = true :=
      List.all_eq_true.mpr fun x hx => List.all_eq_true.mp hs x (List.mem_of_mem_tail hx)
    obtain ⟨t, hrun, hinbox, hblock, hcalls, hresponses⟩ :=
      ih (State.respond r (State.afterRead { s with inbox := ops.map fun i => .frame (encode i) })) hq' hp ho hs' rfl
    refine ⟨t, (run_succ_of_step hstep).trans hrun, hinbox, hblock, ?_, ?_⟩
    · simp [hcalls, List.replicate_succ]
    · simp [hresponses, Nat.add_assoc, Nat.add_comm 1]

/-- The reads an instruction adds to the record (R84). -/
theorem exec_count_read {i : Instr} {s t : State} (h : exec i s = .next t) :
    t.calls.count (.read 2) = s.calls.count (.read 2) + (if i.isQuery && s.block.isOpen then 1 else 0) := by
  rw [exec_calls h, List.count_append]
  cases s.block.isOpen with
  | false => simp
  | true =>
    cases i with
    | acq | rdt | con | cls | swNofault | swFault => simp [Instr.isQuery]

/-- A new record holds its configure call and no read. -/
theorem construct_count_read {cfg : Cfg} {s t : State} (h : construct cfg s = .next t) :
    t.calls.count (.read 2) = 0 := by
  obtain ⟨-, rfl⟩ := construct_next h
  simp

end Sys2Proof.Proofs
end

section
/-! The statements of `spec/41_query_ops.md`. -/

namespace Sys2Proof.Proofs

open Sys2Proof.Machine Sys2Proof.Laws

/-- Settles O17: the two errors are every query's, the value is the word's number. -/
theorem acqFollowsItsRule : Obligations.AcqFollowsItsRule := by
  refine ⟨rfl, fun s => ⟨exec_query_closed rfl, fun ho e hr => exec_query_err rfl ho hr, fun ho b0 b1 hr => ?_⟩⟩
  rw [exec_acq_bytes ho hr, word_eq_ofNat]
  rfl

/-- Settles O18, by bit 2 of the word, which decides between the third error and the value. -/
theorem rdtFollowsItsRule : Obligations.RdtFollowsItsRule := by
  refine ⟨rfl, fun s => ⟨exec_query_closed rfl, fun ho e hr => exec_query_err rfl ho hr,
    fun ho b0 b1 hr hf => exec_rdt_bytes_fault ho hr hf,
    fun ho b0 b1 hr hf => ⟨?_, toNat_data_temperature_le _⟩⟩⟩
  rw [exec_rdt_bytes_noFault ho hr hf, tempq_eq_ofNat]
  rfl

/-- Settles O19: both values of bit 2 are answered OK. -/
theorem conFollowsItsRule : Obligations.ConFollowsItsRule := by
  refine ⟨rfl, fun s => ⟨exec_query_closed rfl, fun ho e hr => exec_query_err rfl ho hr, fun ho b0 b1 hr => ?_⟩⟩
  rw [exec_con_bytes ho hr, connected_eq_decide]
  rfl

/-- Settles O21: the count of one operation, of CONSTRUCT, and of a list of queries by induction on the list. -/
theorem queriesReadExactlyOnceEach : Obligations.QueriesReadExactlyOnceEach :=
  ⟨fun _ _ _ h => exec_count_read h, fun _ _ _ h => construct_count_read h, run_queries⟩

/-- Settles O22: on the same bytes CON's value and RDT's choice of response are both the word's bit 2. -/
theorem conAndRdtAgreeOnTheFault : Obligations.ConAndRdtAgreeOnTheFault := by
  intro s b0 b1 ho hr
  cases hf : fault (word b0 b1) with
  | false => exact ⟨_, _, exec_con_bytes ho hr, exec_rdt_bytes_noFault ho hr hf, by simp [connected, hf]⟩
  | true => exact ⟨_, _, exec_con_bytes ho hr, exec_rdt_bytes_fault ho hr hf, by simp [connected, hf]⟩

end Sys2Proof.Proofs
end

section
/-! The statements of `spec/42_lifecycle_ops.md`. -/

namespace Sys2Proof.Proofs

open Sys2Proof.Machine

/-- Settles O24: the rule of CLS for each value of OPEN, and ZERO16 as the data of its OK response (R51). -/
theorem clsFollowsItsRule : Obligations.ClsFollowsItsRule :=
  ⟨rfl, fun _ => ⟨exec_cls_closed, fun ho => ⟨exec_cls_open ho, rfl, rfl⟩⟩⟩

/-- Settles O25: the step takes the event, and the instance is Closed, so CONSTRUCT goes on; the one configure call
stands first in the new record. -/
theorem constructFollowsItsRule : Obligations.ConstructFollowsItsRule := by
  intro s cfg rest hp hb ho
  rw [step_construct hp hb]
  exact construct_closed (s := { s with inbox := rest }) cfg ho

end Sys2Proof.Proofs
end

section
/-! The errors of an operation (R100): the condition of each kind and the whole state it leaves (R106, R107), and the
one response of a request (R105). -/

namespace Sys2Proof.Proofs

open Sys2Proof.Machine Sys2Proof.Laws

/-- The ways an instruction raises an error, by its kind. -/
inductive RaiseCase (i : Instr) (s t : State) : ErrorKind → Prop where
  | closed (hi : i.isRequest = true) (ho : s.block.isOpen = false) (ht : t = s.raise .resourceClosed) :
      RaiseCase i s t .resourceClosed
  | fault (b0 b1 : Byte) (hi : i = .rdt) (ho : s.block.isOpen = true) (hr : s.nextRead = .got (.bytes b0 b1))
      (hf : b1.getLsbD 2 = true) (ht : t = s.afterRead.raise .thermocoupleFault) :
      RaiseCase i s t .thermocoupleFault
  | transport (e : BitVec 16) (hi : i.isQuery = true) (ho : s.block.isOpen = true)
      (hr : s.nextRead = .got (.err e)) (ht : t = s.afterRead.raise (.transportError e)) :
      RaiseCase i s t (.transportError e)

/-- An instruction whose response is an error raised it in one of these ways. -/
theorem exec_raise_cases {i : Instr} {s t : State} {k : ErrorKind} (h : exec i s = .next t)
    (hk : t.responses = s.responses ++ [.error k]) : RaiseCase i s t k := by
  cases exec_next_cases h with
  | closed hi ho ht =>
    obtain rfl : .resourceClosed = k := by simpa [ht] using hk
    exact .closed hi ho ht
  | transport e hi ho hr ht =>
    obtain rfl : .transportError e = k := by simpa [ht] using hk
    exact .transport e hi ho hr ht
  | rdtFault b0 b1 hi ho hr hf ht =>
    obtain rfl : .thermocoupleFault = k := by simpa [ht] using hk
    exact .fault b0 b1 hi ho hr (fault_word b0 b1 ▸ hf) ht
  | acq _ _ _ _ _ ht => simp [ht] at hk
  | rdt _ _ _ _ _ _ ht => simp [ht] at hk
  | con _ _ _ _ _ ht => simp [ht] at hk
  | cls _ _ ht => simp [ht] at hk
  | status _ _ ht => simp [ht] at hk

/-- An instruction has one outcome: two next states of it are the same. -/
theorem exec_next_unique {i : Instr} {s t u : State} (ht : exec i s = .next t) (hu : exec i s = .next u) : t = u :=
  Host.Outcome.next.inj (ht.symm.trans hu)

theorem isQuery_or_eq_cls {i : Instr} (hi : i.isRequest = true) : i.isQuery = true ∨ i = .cls := by
  simpa [isRequest_eq_isQuery_or_cls] using hi

/-- The closed test comes first in every request, CLS among them (R90, R101). -/
theorem exec_request_closed {i : Instr} {s : State} (hi : i.isRequest = true) (ho : s.block.isOpen = false) :
    exec i s = .next (s.raise .resourceClosed) := by
  obtain hquery | rfl := isQuery_or_eq_cls hi
  · exact exec_query_closed hquery ho
  · exact exec_cls_closed ho

/-- A request that goes on is answered with one response, whatever the state (R105). -/
theorem exec_request_response {i : Instr} {s t : State} (hi : i.isRequest = true) (h : exec i s = .next t) :
    ∃ r, t.responses = s.responses ++ [r] := by
  cases ho : s.block.isOpen with
  | false => exact ⟨_, congrArg State.responses (exec_next_unique h (exec_request_closed hi ho))⟩
  | true =>
    obtain hquery | rfl := isQuery_or_eq_cls hi
    · obtain ⟨r, rfl⟩ := exec_query_open_next hquery ho h
      exact ⟨r, rfl⟩
    · exact ⟨_, congrArg State.responses (exec_next_unique h (exec_cls_open ho))⟩

end Sys2Proof.Proofs
end

section
/-! The statements of `spec/60_exceptions.md`. -/

namespace Sys2Proof.Proofs

open Sys2Proof.Machine Sys2Proof.Laws

/-- Settles O30: the closed test of every request, and conversely the one way to raise ResourceClosed. -/
theorem closedInstanceAnswersResourceClosed : Obligations.ClosedInstanceAnswersResourceClosed := by
  refine ⟨fun i s hi ho => exec_request_closed hi ho, fun i s t h hk => ?_, rfl⟩
  cases exec_raise_cases h hk with
  | closed hi ho _ => exact ⟨hi, ho⟩

/-- Settles O31: the one way to raise ThermocoupleFault, and conversely RDT's rule on such bytes. -/
theorem thermocoupleFaultOnlyFromRdt : Obligations.ThermocoupleFaultOnlyFromRdt := by
  refine ⟨fun i s t h => ⟨⟨fun hk => ?_, ?_⟩, fun hk => ?_⟩, rfl⟩
  · cases exec_raise_cases h hk with
    | fault b0 b1 hi ho hr hf _ => exact ⟨hi, ho, b0, b1, hr, hf⟩
  · rintro ⟨rfl, ho, b0, b1, hr, hf⟩
    exact congrArg State.responses (exec_next_unique h (exec_rdt_bytes_fault ho hr ((fault_word b0 b1).trans hf)))
  · cases exec_raise_cases h hk with
    | fault _ _ _ _ _ _ ht => simp [ht]

/-- Settles O32: the one way to raise TransportError, and conversely the rule of every query on such an answer. -/
theorem transportErrorIsPropagatedUnchanged : Obligations.TransportErrorIsPropagatedUnchanged := by
  refine fun i s t e h => ⟨⟨fun hk => ?_, ?_⟩, fun hk => ?_, rfl⟩
  · cases exec_raise_cases h hk with
    | transport _ hi ho hr _ => exact ⟨hi, ho, hr⟩
  · rintro ⟨hi, ho, hr⟩
    exact congrArg State.responses (exec_next_unique h (exec_query_err hi ho hr))
  · cases exec_raise_cases h hk with
    | transport _ _ _ _ ht => simp [ht]

/-- Settles O33: the response is the one the first condition met calls for, in the order of R105. -/
theorem firstErrorMetIsReported : Obligations.FirstErrorMetIsReported := by
  intro i s t hi h
  obtain ⟨r, hr⟩ := exec_request_response hi h
  refine ⟨r, hr, fun ho => ?_, fun e ho hquery he => ?_, fun hfault => ?_⟩
  · have ht := exec_next_unique h (exec_request_closed hi ho)
    simpa [ht] using hr.symm
  · have ht := exec_next_unique h (exec_query_err hquery ho he)
    simpa [ht] using hr.symm
  · cases exec_raise_cases h (hfault ▸ hr) with
    | fault b0 b1 _ ho hread _ _ => exact ⟨ho, b0, b1, hread⟩

/-- Settles O34: of the three ways to raise, ResourceClosed makes no read and the other two make one. -/
theorem errorsChangeNothingElse : Obligations.ErrorsChangeNothingElse := by
  intro i s t k h hk
  cases exec_raise_cases h hk with
  | closed _ _ ht => exact .inl ht
  | fault _ _ _ _ _ _ ht => exact .inr ht
  | transport _ _ _ _ ht => exact .inr ht

end Sys2Proof.Proofs
end

section
/-! A host, transport and platform that keep their side: what a step leaves of the contract, and that the block then
always has a step (R27, R36, R121, R129). -/

namespace Sys2Proof.Proofs

open Sys2Proof.Machine Sys2Proof.Laws Sys2Proof.Safety

/-- The part of the contract that is not the host's: the platform conforms, and the scripted replies keep to R27. -/
def SurroundingsKeep (s : State) : Prop :=
  s.platform.refusal = none ∧ s.script.all (replyKeeps s.platform.terrW) = true

theorem keepsContract_iff {s : State} :
    keepsContract s = true ↔ SurroundingsKeep s ∧ ∀ e ∈ s.inbox, eventPlain e = true := by
  simp [keepsContract, SurroundingsKeep]

/-- Replies used up and an unchanged platform leave the surroundings as good as they were. -/
theorem surroundingsKeep_of_suffix {s t : State} (hk : SurroundingsKeep s)
    (h : t.platform = s.platform ∧ t.script <:+ s.script) : SurroundingsKeep t := by
  obtain ⟨hp, hs⟩ := hk
  obtain ⟨hplatform, hscript⟩ := h
  rw [SurroundingsKeep, hplatform]
  exact ⟨hp, List.all_eq_true.mpr fun r hr => List.all_eq_true.mp hs r (hscript.subset hr)⟩

/-- An instruction writes nothing of what stands around the block, and uses up at most the oldest reply. -/
theorem exec_surroundings {i : Instr} {s t : State} (h : exec i s = .next t) :
    t.platform = s.platform ∧ t.script <:+ s.script := by
  cases exec_next_cases h with
  | closed _ _ ht => exact ht ▸ ⟨rfl, List.suffix_rfl⟩
  | transport _ _ _ _ ht => exact ht ▸ ⟨rfl, s.script.tail_suffix⟩
  | acq _ _ _ _ _ ht => exact ht ▸ ⟨rfl, s.script.tail_suffix⟩
  | rdtFault _ _ _ _ _ _ ht => exact ht ▸ ⟨rfl, s.script.tail_suffix⟩
  | rdt _ _ _ _ _ _ ht => exact ht ▸ ⟨rfl, s.script.tail_suffix⟩
  | con _ _ _ _ _ ht => exact ht ▸ ⟨rfl, s.script.tail_suffix⟩
  | cls _ _ ht => exact ht ▸ ⟨rfl, List.suffix_rfl⟩
  | status _ _ ht => exact ht ▸ ⟨rfl, List.suffix_rfl⟩

theorem decodeSample_surroundings {s t : State} (h : decodeSample s = .next t) :
    t.platform = s.platform ∧ t.script <:+ s.script := by
  obtain ⟨u, hu, rfl | ⟨v, rfl⟩⟩ := decodeSample_next_cases h
  · exact exec_surroundings hu
  · rw [hostDecode_platform, hostDecode_script]
    exact exec_surroundings hu

theorem step_surroundings {s t : State} (h : step s = .next t) :
    t.platform = s.platform ∧ t.script <:+ s.script := by
  cases step_next_cases h with
  | idle _ ht => exact ht ▸ ⟨rfl, List.suffix_rfl⟩
  | construct cfg rest _ ht =>
    obtain ⟨-, rfl⟩ := construct_next ht
    exact ⟨rfl, List.suffix_rfl⟩
  | run _ _ rest _ _ ht => exact exec_surroundings (s := { s with inbox := rest }) ht
  | sample rest _ ht => exact decodeSample_surroundings (s := { s with inbox := rest }) ht

theorem step_keeps_surroundings {s t : State} (hk : SurroundingsKeep s) (h : step s = .next t) :
    SurroundingsKeep t :=
  surroundingsKeep_of_suffix hk (step_surroundings h)

/-- A step keeps the whole contract, since the events it leaves are among those that waited. -/
theorem step_keeps_contract {s t : State} (hk : keepsContract s = true) (h : step s = .next t) :
    keepsContract t = true := by
  obtain ⟨hsur, hplain⟩ := keepsContract_iff.mp hk
  refine keepsContract_iff.mpr ⟨step_keeps_surroundings hsur h, fun e he => ?_⟩
  rw [step_inbox h] at he
  exact hplain e (List.mem_of_mem_tail he)

/-- A single request, a status word or a DECODE always has its step, whatever waits behind it. -/
theorem step_next_of_eventPlain {s : State} {e : HostEvent} {rest : List HostEvent} (hk : SurroundingsKeep s)
    (he : eventPlain e = true) (hb : s.inbox = e :: rest) : ∃ t, step s = .next t := by
  obtain ⟨hp, hs⟩ := hk
  cases e with
  | construct cfg => cases he
  | overlap a b => cases he
  | frame bs =>
    obtain ⟨i, hd⟩ := (exists_decode_iff_frameWf bs).mpr he
    rw [step_frame hp hb hd]
    exact exec_next_of_replies_keep i (s := { s with inbox := rest }) hs
  | decodeSample =>
    obtain ⟨u, hu⟩ := exec_next_of_replies_keep .acq (s := { s with inbox := rest }) hs
    exact ⟨_, (step_decodeSample hp hb).trans (decodeSample_of_acq hu)⟩

/-- Under the contract there is always a step: that of the oldest event, or the idle one. -/
theorem step_next_of_keepsContract {s : State} (hk : keepsContract s = true) : ∃ t, step s = .next t := by
  obtain ⟨hsur, hplain⟩ := keepsContract_iff.mp hk
  cases hb : s.inbox with
  | nil => exact ⟨s, step_nil hsur.1 hb⟩
  | cons e rest => exact step_next_of_eventPlain hsur (hplain e (by simp [hb])) hb

/-- Any number of steps goes on under the contract, keeps it, and takes so many events. -/
theorem run_of_keepsContract (n : Nat) {s : State} (hk : keepsContract s = true) :
    ∃ t : State, Host.Core.run Sys2Proof.core n s = .next t ∧ keepsContract t = true ∧ t.inbox = s.inbox.drop n := by
  induction n generalizing s with
  | zero => exact ⟨s, rfl, hk, rfl⟩
  | succ n ih =>
    obtain ⟨u, hu⟩ := step_next_of_keepsContract hk
    obtain ⟨t, hrun, hkeeps, hinbox⟩ := ih (step_keeps_contract hk hu)
    refine ⟨t, (run_succ_of_step hu).trans hrun, hkeeps, ?_⟩
    rw [hinbox, step_inbox hu, List.drop_tail]

end Sys2Proof.Proofs
end

section
/-! The end of a run (R130), by the events that wait. -/

namespace Sys2Proof.Proofs

open Sys2Proof.Machine Sys2Proof.Laws Sys2Proof.Safety

@[simp] theorem runEnded_eq_true_iff {s : State} : runEnded s = true ↔ s.requestWaits = false := by
  simp [runEnded]

theorem ownerDutyMet_iff {s : State} : ownerDutyMet s = true ↔ runEnded s = true ∧ s.block.isOpen = false := by
  simp [ownerDutyMet, dutyMet]

theorem beginsRun_eq_false_iff {e : HostEvent} : e.beginsRun = false ↔ ∀ cfg, e ≠ .construct cfg := by
  cases e with
  | construct cfg => simp [HostEvent.beginsRun]
  | frame | decodeSample | overlap => simp [HostEvent.beginsRun]

/-- The CONSTRUCT that begins a run is no request (R49, R91). -/
theorem beginsRun_eq_false_of_issuesRequest {e : HostEvent} (h : e.issuesRequest = true) : e.beginsRun = false := by
  cases e with
  | construct cfg => cases h
  | frame | decodeSample | overlap => rfl

/-- A plain event is none that begins a run. -/
theorem beginsRun_eq_false_of_eventPlain {e : HostEvent} (h : eventPlain e = true) : e.beginsRun = false := by
  cases e with
  | construct cfg => cases h
  | frame | decodeSample | overlap => rfl

/-- The events that issue a request: a frame of one of the four operations, the ACQ of a DECODE, two requests at
once. -/
theorem issuesRequest_iff (e : HostEvent) : e.issuesRequest = true ↔
    (∃ bs i, e = .frame bs ∧ decode bs = .ok i ∧ i.isRequest = true) ∨ e = .decodeSample ∨ ∃ a b, e = .overlap a b := by
  cases e with
  | frame bs => cases hd : decode bs <;> simp [HostEvent.issuesRequest, hd]
  | construct | decodeSample | overlap => simp [HostEvent.issuesRequest]

/-- A run has ended when no event issues a request that stands before every waiting CONSTRUCT. -/
theorem runEnded_iff (s : State) : runEnded s = true ↔ ∀ (before after : List HostEvent) (e : HostEvent),
    s.inbox = before ++ e :: after → (∀ cfg, HostEvent.construct cfg ∉ before) → e.issuesRequest = false := by
  simp only [runEnded_eq_true_iff, State.requestWaits, List.any_eq_false]
  constructor
  · intro hnone before after e hb hfirst
    refine Bool.eq_false_iff.mpr fun hreq => ?_
    have hbefore : ∀ x ∈ before, (!x.beginsRun) = true := by
      intro x hx
      rw [Bool.not_eq_true', beginsRun_eq_false_iff]
      rintro cfg rfl
      exact hfirst cfg hx
    refine hnone e ?_ hreq
    simp [hb, List.takeWhile_append_of_pos hbefore, beginsRun_eq_false_of_issuesRequest hreq]
  · intro hfirst e he
    obtain ⟨before, after, hsplit⟩ := List.append_of_mem he
    rw [Bool.not_eq_true]
    refine hfirst before (after ++ s.inbox.dropWhile (fun x => !x.beginsRun)) e ?_ fun cfg hcfg => ?_
    · simpa [hsplit] using (s.inbox.takeWhile_append_dropWhile (p := fun x => !x.beginsRun)).symm
    · have hmem : HostEvent.construct cfg ∈ s.inbox.takeWhile (fun x => !x.beginsRun) := by simp [hsplit, hcfg]
      cases List.mem_takeWhile_imp hmem

/-- With no CONSTRUCT waiting every event counts. -/
theorem runEnded_iff_of_plain {s : State} (hplain : ∀ e ∈ s.inbox, eventPlain e = true) :
    runEnded s = true ↔ ∀ e ∈ s.inbox, e.issuesRequest = false := by
  have hall : s.inbox.takeWhile (fun e => !e.beginsRun) = s.inbox :=
    List.takeWhile_eq_self_iff.mpr fun e he => by simp [beginsRun_eq_false_of_eventPlain (hplain e he)]
  simp [State.requestWaits, hall]

/-- An instruction that is no request is a status word, and its effect the host's DECODE of it (R55, R76). -/
theorem exec_of_not_isRequest {i : Instr} {s t : State} (hi : i.isRequest = false) (h : exec i s = .next t) :
    ∃ v, t = s.hostDecode v := by
  cases i with
  | acq | rdt | con | cls => cases hi
  | swNofault | swFault => cases h; exact ⟨_, rfl⟩

/-- A step on an event that neither issues a request nor begins a run is the host's DECODE of a status word. -/
theorem step_next_of_no_request {s t : State} {e : HostEvent} {rest : List HostEvent} (hb : s.inbox = e :: rest)
    (hrun : e.beginsRun = false) (hreq : e.issuesRequest = false) (h : step s = .next t) :
    ∃ v, t = State.hostDecode v { s with inbox := rest } := by
  cases step_next_cases h with
  | idle hnil _ => cases hb.symm.trans hnil
  | construct cfg _ hb' _ => cases hb.symm.trans hb'; cases hrun
  | sample _ hb' _ => cases hb.symm.trans hb'; cases hreq
  | run bs i _ hb' hd ht =>
    cases hb.symm.trans hb'
    exact exec_of_not_isRequest (issuesRequest_frame hd ▸ hreq) ht

/-- An ended run takes a status word, and nothing but the record of DECODEs and the inbox changes. -/
theorem step_next_of_runEnded {s t : State} {e : HostEvent} {rest : List HostEvent} (hb : s.inbox = e :: rest)
    (hrun : e.beginsRun = false) (hend : runEnded s = true) (h : step s = .next t) :
    runEnded t = true ∧ ∃ v, t = State.hostDecode v { s with inbox := rest } := by
  rw [runEnded_eq_true_iff, requestWaits_cons hb, hrun] at hend
  obtain ⟨hreq, hrest⟩ : e.issuesRequest = false ∧ State.requestWaits { s with inbox := rest } = false := by
    simpa using hend
  obtain ⟨v, rfl⟩ := step_next_of_no_request hb hrun hreq h
  exact ⟨runEnded_eq_true_iff.mpr hrest, v, rfl⟩

/-- Where a CONSTRUCT waits first, the run before it has ended. -/
theorem runEnded_of_construct {s : State} {cfg : Cfg} {rest : List HostEvent}
    (hb : s.inbox = .construct cfg :: rest) : runEnded s = true := by
  simp [requestWaits_cons hb, HostEvent.beginsRun]

/-- CLS leaves state Closed behind it from either state (R90). -/
theorem exec_cls_next (s : State) : ∃ t, exec .cls s = .next t ∧ t.block.isOpen = false ∧ t.inbox = s.inbox := by
  cases ho : s.block.isOpen with
  | false => exact ⟨_, exec_cls_closed ho, ho, rfl⟩
  | true => exact ⟨_, exec_cls_open ho, rfl, rfl⟩

/-- Plain events and then a CLS are taken one by one, whatever waits behind, and leave state Closed. -/
theorem run_plain_then_cls (es : List HostEvent) {s : State} {rest : List HostEvent} (hk : SurroundingsKeep s)
    (hplain : ∀ e ∈ es, eventPlain e = true) (hb : s.inbox = es ++ .frame (encode .cls) :: rest) :
    ∃ t : State, Host.Core.run Sys2Proof.core (es.length + 1) s = .next t ∧ t.inbox = rest ∧
      t.block.isOpen = false := by
  induction es generalizing s with
  | nil =>
    obtain ⟨t, ht, hclosed, hinbox⟩ := exec_cls_next { s with inbox := rest }
    have hstep : step s = .next t := (step_frame hk.1 hb (decode_encode .cls)).trans ht
    exact ⟨t, run_succ_of_step (n := 0) hstep, hinbox, hclosed⟩
  | cons e es ih =>
    obtain ⟨he, hes⟩ := List.forall_mem_cons.mp hplain
    obtain ⟨u, hu⟩ := step_next_of_eventPlain hk he hb
    obtain ⟨t, hrun, ht⟩ := ih (step_keeps_surroundings hk hu) hes (by rw [step_inbox hu, hb]; rfl)
    exact ⟨t, (run_succ_of_step hu).trans hrun, ht⟩

end Sys2Proof.Proofs
end

section
/-! The statements of `spec/70_reset_and_hazards.md`. -/

namespace Sys2Proof.Proofs

open Sys2Proof.Machine Sys2Proof.Laws Sys2Proof.Safety

/-- A constructed instance whose transport answers two reads, the words' second bytes as given. -/
def openOnSamples (first second : Byte) : State :=
  { State.reset with script := [.data [0x00, first], .data [0x00, second]] }

/-- Settles O47: the contract goes on from step to step, and under it no CONSTRUCT waits, so that the run ends with
its last request. -/
theorem keptContractsRunToTheEnd : Obligations.KeptContractsRunToTheEnd := by
  intro s n hk
  obtain ⟨t, hrun, hkeeps, hinbox⟩ := run_of_keepsContract n hk
  have hend := runEnded_iff_of_plain (keepsContract_iff.mp hkeeps).2
  rw [hinbox] at hend
  refine ⟨t, hrun, hkeeps, hinbox, hend, fun hlen => hend.mpr ?_⟩
  simp [List.drop_of_length_le hlen]

/-- Settles O41: the word's bit 2 is what CON answers, negated, and what RDT chooses its response by. -/
theorem groundedPinMakesConTruthful : Obligations.GroundedPinMakesConTruthful := by
  intro s b0 b1 attached ho hr htruthful
  have hfault : fault (word b0 b1) = !attached := htruthful
  obtain ⟨u, hu, htemp⟩ := exec_rdt_bytes ho hr
  refine ⟨_, u, exec_con_bytes ho hr, ?_, hu, ?_⟩
  · simp [connected, hfault]
  · rw [htemp, hfault, Bool.not_eq_false']

/-- Settles O48: the events up to the CLS run one by one, and the CLS leaves OPEN at 0. -/
theorem finalClsMeetsTheOwnersDuty : Obligations.FinalClsMeetsTheOwnersDuty := by
  intro s es rest hk hb hwaits
  obtain ⟨hsur, hplain⟩ := keepsContract_iff.mp hk
  obtain ⟨t, hrun, rfl, hclosed⟩ := run_plain_then_cls es (s := s) hsur hplain hb
  exact ⟨t, hrun, rfl, ownerDutyMet_iff.mpr ⟨runEnded_eq_true_iff.mpr hwaits, hclosed⟩⟩

/-- Settles O49: an ended run takes status words until a CONSTRUCT stands first, which a released instance takes. -/
theorem runEndsWithItsLastRequest : Obligations.RunEndsWithItsLastRequest := by
  refine ⟨runEnded_iff, issuesRequest_iff, fun _ => ownerDutyMet_iff, fun s t e rest hb hne hend h => ?_,
    fun s t cfg rest hb h => ?_⟩
  · obtain ⟨hended, v, rfl⟩ := step_next_of_runEnded hb (beginsRun_eq_false_iff.mpr hne) hend h
    exact ⟨hended, rfl, rfl, rfl, rfl, rfl⟩
  · rw [step_construct (platform_refusal_of_step h) hb] at h
    obtain ⟨hclosed, rfl⟩ := construct_next h
    exact ⟨ownerDutyMet_iff.mpr ⟨runEnded_of_construct hb, hclosed⟩, rfl⟩

/-- Settles O40: the transport answers CON with one word and the RDT after it with another, of other bit 2. -/
theorem twoOperationsAreTwoSamples : Obligations.TwoOperationsAreTwoSamples :=
  ⟨⟨openOnSamples 0x00 0x04, _, _, exec_con_bytes rfl rfl, rfl, exec_rdt_bytes_fault rfl rfl rfl, rfl⟩,
    openOnSamples 0x04 0x00, _, _, _, exec_con_bytes rfl rfl, rfl, exec_rdt_bytes_noFault rfl rfl rfl, rfl⟩

end Sys2Proof.Proofs
end
